-- ==== Sys2Proof/Word.lean ====
section
/-! DEFINITION. The two word types of the block (00_scope.md R5, R7). -/

namespace Sys2Proof

/-- "Byte: 8-bit unsigned" (R5, R7). -/
abbrev Byte := BitVec 8

/-- "Word: 16-bit unsigned" (R5, R7): every address, `pc`, `sp` and register pair. -/
abbrev Word := BitVec 16

end Sys2Proof
end

