-- ==== Sys2Proof/Machine/Bytes.lean ====
section
/-! DEFINITION. Halves of words, nibbles and bits: the notation of 00_scope.md R7. -/

namespace Sys2Proof.Machine

/-- `w[15:8]`. -/
def hiByte (w : Word) : Byte := w.extractLsb' 8 8

/-- `w[7:0]`. -/
def loByte (w : Word) : Byte := w.extractLsb' 0 8

/-- `hi:lo`, "assembled from two 8-bit halves as `(high << 8) | low`" (R7). -/
def joinBytes (hi lo : Byte) : Word := hi ++ lo

/-- `v[3:0]` as a number. -/
def lowNibble (v : Byte) : Nat := v.toNat % 16

/-- The number of 1 bits of a Byte (R14, R90). -/
def bitCount (v : Byte) : Nat :=
  v[0].toNat + v[1].toNat + v[2].toNat + v[3].toNat + v[4].toNat + v[5].toNat + v[6].toNat + v[7].toNat

/-- The Byte whose bit `i` is `b` and whose other bits are 0 (`b << i`, R16). -/
def bitAt (b : Bool) (i : Nat) : Byte := (if b then 1#8 else 0#8) <<< i

end Sys2Proof.Machine
end

