-- ==== Sys2Proof/Syntax.lean ====
section
/-! DEFINITION. The instructions: one constructor for each family pattern and operand kind of
spec/opcode_table.json (30_encoding.md R59), named after its mnemonic. -/

namespace Sys2Proof

/-- The seven registers an operand field can name (R55); the eighth field value, `M`, is the
memory operand and has constructors of its own. -/
inductive Reg where
  | B | C | D | E | H | L | A
deriving DecidableEq, Repr

/-- The register pairs of LXI, INX, DCX and DAD (R56, first row). PUSH and POP name the first
three, STAX and LDAX the first two (`Instr.wf`); PUSH PSW and POP PSW are instructions of their own. -/
inductive RegPair where
  | BC | DE | HL | SP
deriving DecidableEq, Repr

/-- The eight conditions (R57, R160). -/
inductive Cond where
  | nz | z | nc | c | po | pe | p | m
deriving DecidableEq, Repr

/-- The four opcode values without a handler (R61, D5). -/
inductive NoHandler where
  | xD9 | xDD | xED | xFD
deriving DecidableEq, Repr

/-- The instruction set. -/
inductive Instr where
  -- Data transfer (40_data_transfer.md)
  /-- MOV r1,r2 (R70) -/
  | movRR (d r : Reg)
  /-- MOV r,M (R71) -/
  | movRM (d : Reg)
  /-- MOV M,r (R72) -/
  | movMR (r : Reg)
  /-- MVI r,d8 (R73) -/
  | mviR (d : Reg) (d8 : Byte)
  /-- MVI M,d8 (R74) -/
  | mviM (d8 : Byte)
  /-- LXI rp,d16 (R75) -/
  | lxi (rp : RegPair) (d16 : Word)
  /-- LDA a16 (R76) -/
  | lda (a16 : Word)
  /-- STA a16 (R77) -/
  | sta (a16 : Word)
  /-- LHLD a16 (R78) -/
  | lhld (a16 : Word)
  /-- SHLD a16 (R79) -/
  | shld (a16 : Word)
  /-- LDAX rp (R80), rp = B or D -/
  | ldax (rp : RegPair)
  /-- STAX rp (R81), rp = B or D -/
  | stax (rp : RegPair)
  /-- XCHG (R82) -/
  | xchg
  -- Arithmetic (41_arithmetic.md)
  /-- ADD r (R93) -/
  | addR (r : Reg)
  /-- ADD M (R94) -/
  | addM
  /-- ADI d8 (R95) -/
  | adi (d8 : Byte)
  /-- ADC r (R96) -/
  | adcR (r : Reg)
  /-- ADC M (R97) -/
  | adcM
  /-- ACI d8 (R98) -/
  | aci (d8 : Byte)
  /-- SUB r (R99) -/
  | subR (r : Reg)
  /-- SUB M (R100) -/
  | subM
  /-- SUI d8 (R101) -/
  | sui (d8 : Byte)
  /-- SBB r (R102) -/
  | sbbR (r : Reg)
  /-- SBB M (R103) -/
  | sbbM
  /-- SBI d8 (R104) -/
  | sbi (d8 : Byte)
  /-- INR r (R108) -/
  | inrR (d : Reg)
  /-- INR M (R109) -/
  | inrM
  /-- DCR r (R110) -/
  | dcrR (d : Reg)
  /-- DCR M (R111) -/
  | dcrM
  /-- INX rp (R112) -/
  | inx (rp : RegPair)
  /-- DCX rp (R113) -/
  | dcx (rp : RegPair)
  /-- DAD rp (R114) -/
  | dad (rp : RegPair)
  /-- DAA (R115) -/
  | daa
  -- Logical, compare, rotate, carry (42_logical_rotate.md)
  /-- ANA r (R131) -/
  | anaR (r : Reg)
  /-- ANA M (R132) -/
  | anaM
  /-- ANI d8 (R133) -/
  | ani (d8 : Byte)
  /-- XRA r (R134) -/
  | xraR (r : Reg)
  /-- XRA M (R135) -/
  | xraM
  /-- XRI d8 (R136) -/
  | xri (d8 : Byte)
  /-- ORA r (R137) -/
  | oraR (r : Reg)
  /-- ORA M (R138) -/
  | oraM
  /-- ORI d8 (R139) -/
  | ori (d8 : Byte)
  /-- CMP r (R140) -/
  | cmpR (r : Reg)
  /-- CMP M (R141) -/
  | cmpM
  /-- CPI d8 (R142) -/
  | cpi (d8 : Byte)
  /-- RLC (R143) -/
  | rlc
  /-- RRC (R144) -/
  | rrc
  /-- RAL (R145) -/
  | ral
  /-- RAR (R146) -/
  | rar
  /-- CMA (R147) -/
  | cma
  /-- STC (R148) -/
  | stc
  /-- CMC (R149) -/
  | cmc
  -- Control transfer (43_control_flow.md)
  /-- JMP a16, opcode 0xC3 (R161) -/
  | jmp (a16 : Word)
  /-- JMP a16, opcode 0xCB, the second encoding (R60, R161) -/
  | jmpAlt (a16 : Word)
  /-- JNZ a16 (R162) -/
  | jnz (a16 : Word)
  /-- JZ a16 (R163) -/
  | jz (a16 : Word)
  /-- JNC a16 (R164) -/
  | jnc (a16 : Word)
  /-- JC a16 (R165) -/
  | jc (a16 : Word)
  /-- JPO a16 (R166) -/
  | jpo (a16 : Word)
  /-- JPE a16 (R167) -/
  | jpe (a16 : Word)
  /-- JP a16 (R168) -/
  | jp (a16 : Word)
  /-- JM a16 (R169) -/
  | jm (a16 : Word)
  /-- CALL a16 (R170) -/
  | call (a16 : Word)
  /-- CNZ a16 (R171) -/
  | cnz (a16 : Word)
  /-- CZ a16 (R172) -/
  | cz (a16 : Word)
  /-- CNC a16 (R173) -/
  | cnc (a16 : Word)
  /-- CC a16 (R174) -/
  | cc (a16 : Word)
  /-- CPO a16 (R175) -/
  | cpo (a16 : Word)
  /-- CPE a16 (R176) -/
  | cpe (a16 : Word)
  /-- CP a16 (R177) -/
  | cp (a16 : Word)
  /-- CM a16 (R178) -/
  | cm (a16 : Word)
  /-- RET (R179) -/
  | ret
  /-- RNZ (R180) -/
  | rnz
  /-- RZ (R181) -/
  | rz
  /-- RNC (R182) -/
  | rnc
  /-- RC (R183) -/
  | rc
  /-- RPO (R184) -/
  | rpo
  /-- RPE (R185) -/
  | rpe
  /-- RP (R186) -/
  | rp
  /-- RM (R187) -/
  | rm
  /-- RST n (R188) -/
  | rst (n : BitVec 3)
  /-- PCHL (R189) -/
  | pchl
  -- Stack, input/output, machine control (44_stack_io_machine.md)
  /-- PUSH rp (R210), rp = B, D or H -/
  | push (rp : RegPair)
  /-- PUSH PSW (R212) -/
  | pushPsw
  /-- POP rp (R213), rp = B, D or H -/
  | pop (rp : RegPair)
  /-- POP PSW (R214) -/
  | popPsw
  /-- XTHL (R215) -/
  | xthl
  /-- SPHL (R216) -/
  | sphl
  /-- IN p8 (R220) -/
  | inPort (p8 : Byte)
  /-- OUT p8 (R221) -/
  | outPort (p8 : Byte)
  /-- EI (R222) -/
  | ei
  /-- DI (R223) -/
  | di
  /-- HLT (R224) -/
  | hlt
  /-- NOP, opcode 0x00 (R225) -/
  | nop
  /-- the NOP synonym with field yyy = y, y not 0 (R226) -/
  | nopSyn (y : BitVec 3)
  /-- an opcode without a handler (R228) -/
  | unimpl (op : NoHandler)
deriving DecidableEq, Repr

end Sys2Proof
end

