-- ==== Sys2Proof/WellFormed.lean ====
section
/-! DEFINITION. Which terms of `Instr` the encoding can express (30_encoding.md R56, R59). -/

namespace Sys2Proof

/-- PUSH and POP name B, D or H in their pair field; the fourth value is PSW (R56). -/
def RegPair.stackable : RegPair → Bool
  | .BC | .DE | .HL => true
  | .SP => false

/-- STAX and LDAX name B or D; "not encodable" otherwise (R56, R80, R81). -/
def RegPair.indirect : RegPair → Bool
  | .BC | .DE => true
  | .HL | .SP => false

/-- The check: the pair fields of PUSH, POP, STAX and LDAX, and a NOP synonym's `yyy`, which is
1 to 7 (R226). Every other operand is encodable at every value. -/
def Instr.wf : Instr → Bool
  | .push pair | .pop pair => pair.stackable
  | .stax pair | .ldax pair => pair.indirect
  | .nopSyn y => y != 0
  | .movRR _ _ | .movRM _ | .movMR _ | .mviR _ _ | .mviM _ | .lxi _ _ | .lda _ | .sta _ | .lhld _
  | .shld _ | .xchg => true
  | .addR _ | .addM | .adi _ | .adcR _ | .adcM | .aci _ | .subR _ | .subM | .sui _ | .sbbR _
  | .sbbM | .sbi _ | .inrR _ | .inrM | .dcrR _ | .dcrM | .inx _ | .dcx _ | .dad _ | .daa => true
  | .anaR _ | .anaM | .ani _ | .xraR _ | .xraM | .xri _ | .oraR _ | .oraM | .ori _ | .cmpR _
  | .cmpM | .cpi _ | .rlc | .rrc | .ral | .rar | .cma | .stc | .cmc => true
  | .jmp _ | .jmpAlt _ | .jnz _ | .jz _ | .jnc _ | .jc _ | .jpo _ | .jpe _ | .jp _ | .jm _ => true
  | .call _ | .cnz _ | .cz _ | .cnc _ | .cc _ | .cpo _ | .cpe _ | .cp _ | .cm _ => true
  | .ret | .rnz | .rz | .rnc | .rc | .rpo | .rpe | .rp | .rm | .rst _ | .pchl => true
  | .pushPsw | .popPsw | .xthl | .sphl | .inPort _ | .outPort _ | .ei | .di | .hlt | .nop
  | .unimpl _ => true

end Sys2Proof
end

