-- ==== Sys2Proof/Decode.lean ====
section
/-! DEFINITION. The decoder (30_encoding.md R50 to R62), total on any bytes, and after it the
encoder, written from the same tables. -/

namespace Sys2Proof

open Sys2Proof.Machine (hiByte loByte joinBytes)

/-! ### Fields of the opcode (R52) -/

/-- `x`, bits 7..6: the quadrant. -/
def fieldX (op : Byte) : Fin 4 := (op.extractLsb' 6 2).toFin

/-- `y`, bits 5..3: `ddd`, `ooo`, `ccc` or `nnn`. -/
def fieldY (op : Byte) : Fin 8 := (op.extractLsb' 3 3).toFin

/-- `z`, bits 2..0: `sss` or the sub-group selector. -/
def fieldZ (op : Byte) : Fin 8 := (op.extractLsb' 0 3).toFin

/-- `p`, bits 5..4: the register pair `rp`. -/
def fieldP (op : Byte) : Fin 4 := (op.extractLsb' 4 2).toFin

/-- `q`, bit 3: selects between two instructions that share `p` and `z`. -/
def fieldQ (op : Byte) : Fin 2 := (op.extractLsb' 3 1).toFin

/-- Register numbers (R55); number 6 is `M`, which is no register. -/
def regOfNumber : Fin 8 → Option Reg
  | 0 => some .B | 1 => some .C | 2 => some .D | 3 => some .E
  | 4 => some .H | 5 => some .L | 6 => none | 7 => some .A

/-- Register-pair numbers (R56, first row). -/
def pairOfNumber : Fin 4 → RegPair
  | 0 => .BC | 1 => .DE | 2 => .HL | 3 => .SP

/-! ### Lengths (R51) -/

/-- The length in bytes (R51): F1 is 1, F2 is 2, F3 is 3. -/
def Instr.length : Instr → Nat
  | .movRR _ _ | .movRM _ | .movMR _ | .ldax _ | .stax _ | .xchg | .addR _ | .addM | .adcR _
  | .adcM | .subR _ | .subM | .sbbR _ | .sbbM | .inrR _ | .inrM | .dcrR _ | .dcrM | .inx _
  | .dcx _ | .dad _ | .daa | .anaR _ | .anaM | .xraR _ | .xraM | .oraR _ | .oraM | .cmpR _
  | .cmpM | .rlc | .rrc | .ral | .rar | .cma | .stc | .cmc | .ret | .rnz | .rz | .rnc | .rc
  | .rpo | .rpe | .rp | .rm | .rst _ | .pchl | .push _ | .pushPsw | .pop _ | .popPsw | .xthl
  | .sphl | .ei | .di | .hlt | .nop | .nopSyn _ | .unimpl _ => 1
  | .mviR _ _ | .mviM _ | .adi _ | .aci _ | .sui _ | .sbi _ | .ani _ | .xri _ | .ori _ | .cpi _
  | .inPort _ | .outPort _ => 2
  | .lxi _ _ | .lda _ | .sta _ | .lhld _ | .shld _ | .jmp _ | .jmpAlt _ | .jnz _ | .jz _ | .jnc _
  | .jc _ | .jpo _ | .jpe _ | .jp _ | .jm _ | .call _ | .cnz _ | .cz _ | .cnc _ | .cc _ | .cpo _
  | .cpe _ | .cp _ | .cm _ => 3

/-- The length the opcode byte alone determines (R51): F3 is LXI, SHLD, LHLD, STA, LDA, the jumps and
the calls; F2 is MVI, the immediate operations, OUT and IN; everything else is F1. -/
def opLength (op : Byte) : Nat :=
  match fieldX op, fieldZ op, fieldY op with
  | 0, 1, _ => if fieldQ op = 0 then 3 else 1
  | 0, 2, 4 | 0, 2, 5 | 0, 2, 6 | 0, 2, 7 => 3
  | 0, 6, _ => 2
  | 3, 2, _ | 3, 4, _ => 3
  | 3, 3, 0 | 3, 3, 1 => 3
  | 3, 3, 2 | 3, 3, 3 => 2
  | 3, 5, 1 => 3
  | 3, 6, _ => 2
  | _, _, _ => 1

/-! ### The opcode map by bit pattern (R59); `b2` and `b3` are the operand bytes -/

/-- Quadrant 0, `00 yyy zzz`. -/
def decodeMisc (op b2 b3 : Byte) : Instr :=
  let d16 := joinBytes b3 b2
  let rp := pairOfNumber (fieldP op)
  match fieldZ op with
  | 0 => if fieldY op = 0 then .nop else .nopSyn (op.extractLsb' 3 3)
  | 1 => if fieldQ op = 0 then .lxi rp d16 else .dad rp
  | 2 =>
    match fieldY op with
    | 0 => .stax .BC | 1 => .ldax .BC | 2 => .stax .DE | 3 => .ldax .DE
    | 4 => .shld d16 | 5 => .lhld d16 | 6 => .sta d16 | 7 => .lda d16
  | 3 => if fieldQ op = 0 then .inx rp else .dcx rp
  | 4 => match regOfNumber (fieldY op) with | some d => .inrR d | none => .inrM
  | 5 => match regOfNumber (fieldY op) with | some d => .dcrR d | none => .dcrM
  | 6 => match regOfNumber (fieldY op) with | some d => .mviR d b2 | none => .mviM b2
  | 7 =>
    match fieldY op with
    | 0 => .rlc | 1 => .rrc | 2 => .ral | 3 => .rar | 4 => .daa | 5 => .cma | 6 => .stc | 7 => .cmc

/-- Quadrant 1, `01 ddd sss`; both fields 6 is HLT (R72, R224). -/
def decodeMove (op : Byte) : Instr :=
  match regOfNumber (fieldY op), regOfNumber (fieldZ op) with
  | some d, some r => .movRR d r
  | some d, none => .movRM d
  | none, some r => .movMR r
  | none, none => .hlt

/-- Quadrant 2, `10 ooo sss`. -/
def decodeAccumulator (op : Byte) : Instr :=
  match regOfNumber (fieldZ op) with
  | some r =>
    match fieldY op with
    | 0 => .addR r | 1 => .adcR r | 2 => .subR r | 3 => .sbbR r
    | 4 => .anaR r | 5 => .xraR r | 6 => .oraR r | 7 => .cmpR r
  | none =>
    match fieldY op with
    | 0 => .addM | 1 => .adcM | 2 => .subM | 3 => .sbbM
    | 4 => .anaM | 5 => .xraM | 6 => .oraM | 7 => .cmpM

/-- Quadrant 3, `11 yyy zzz`. -/
def decodeControl (op b2 b3 : Byte) : Instr :=
  let a16 := joinBytes b3 b2
  match fieldZ op with
  | 0 =>
    match fieldY op with
    | 0 => .rnz | 1 => .rz | 2 => .rnc | 3 => .rc | 4 => .rpo | 5 => .rpe | 6 => .rp | 7 => .rm
  | 1 =>
    match fieldY op with
    | 0 => .pop .BC | 1 => .ret | 2 => .pop .DE | 3 => .unimpl .xD9
    | 4 => .pop .HL | 5 => .pchl | 6 => .popPsw | 7 => .sphl
  | 2 =>
    match fieldY op with
    | 0 => .jnz a16 | 1 => .jz a16 | 2 => .jnc a16 | 3 => .jc a16
    | 4 => .jpo a16 | 5 => .jpe a16 | 6 => .jp a16 | 7 => .jm a16
  | 3 =>
    match fieldY op with
    | 0 => .jmp a16 | 1 => .jmpAlt a16 | 2 => .outPort b2 | 3 => .inPort b2
    | 4 => .xthl | 5 => .xchg | 6 => .di | 7 => .ei
  | 4 =>
    match fieldY op with
    | 0 => .cnz a16 | 1 => .cz a16 | 2 => .cnc a16 | 3 => .cc a16
    | 4 => .cpo a16 | 5 => .cpe a16 | 6 => .cp a16 | 7 => .cm a16
  | 5 =>
    match fieldY op with
    | 0 => .push .BC | 1 => .call a16 | 2 => .push .DE | 3 => .unimpl .xDD
    | 4 => .push .HL | 5 => .unimpl .xED | 6 => .pushPsw | 7 => .unimpl .xFD
  | 6 =>
    match fieldY op with
    | 0 => .adi b2 | 1 => .aci b2 | 2 => .sui b2 | 3 => .sbi b2
    | 4 => .ani b2 | 5 => .xri b2 | 6 => .ori b2 | 7 => .cpi b2
  | 7 => .rst (op.extractLsb' 3 3)

/-- `Decode` (R52), "total on all 256 values": the instruction an opcode byte and the two bytes
after it stand for. An operand byte the instruction does not have is ignored. -/
def decodeOp (op b2 b3 : Byte) : Instr :=
  match fieldX op with
  | 0 => decodeMisc op b2 b3
  | 1 => decodeMove op
  | 2 => decodeAccumulator op
  | 3 => decodeControl op b2 b3

/-- Why a byte sequence holds no whole instruction. -/
inductive DecodeError where
  /-- there is no opcode byte -/
  | empty
  /-- an operand byte of the opcode's length (R51) is missing -/
  | truncated (op : Byte)
deriving DecidableEq, Repr

/-- Decoding a byte sequence: the instruction at its head and the bytes after it. -/
def decode : List Byte → Except DecodeError (Instr × List Byte)
  | [] => .error .empty
  | op :: rest =>
    match opLength op, rest with
    | 1, rest => .ok (decodeOp op 0 0, rest)
    | 2, b2 :: rest => .ok (decodeOp op b2 0, rest)
    | 3, b2 :: b3 :: rest => .ok (decodeOp op b2 b3, rest)
    | _, _ => .error (.truncated op)

/-- The instruction in the table's numbering: bit 0 of `w` is the least significant bit of the
first byte, and every bit from `nbits` on is 0. -/
def tableBytes (nbits w : Nat) : List Byte :=
  let v := w % 2 ^ nbits
  [BitVec.ofNat 8 v, BitVec.ofNat 8 (v / 2 ^ 8), BitVec.ofNat 8 (v / 2 ^ 16)]

/-- The instruction the decoder reads from a word of spec/opcode_table.json. -/
def decodeTableWord (nbits w : Nat) : Option Instr :=
  match decode (tableBytes nbits w) with
  | .ok (i, _) => some i
  | .error _ => none

/-! ### The encoder -/

/-- The opcode byte with the fields `x`, `y`, `z` (R52). -/
def opXYZ (x : BitVec 2) (y z : BitVec 3) : Byte := x ++ y ++ z

/-- The opcode byte with the fields `x`, `p`, `q`, `z` (R52). -/
def opXPQZ (x p : BitVec 2) (q : BitVec 1) (z : BitVec 3) : Byte := x ++ p ++ q ++ z

/-- Register numbers (R55). -/
def Reg.number : Reg → BitVec 3
  | .B => 0 | .C => 1 | .D => 2 | .E => 3 | .H => 4 | .L => 5 | .A => 7

/-- The number of the memory operand `M` (R55). -/
def numberM : BitVec 3 := 6

/-- Register-pair numbers (R56). -/
def RegPair.number : RegPair → BitVec 2
  | .BC => 0 | .DE => 1 | .HL => 2 | .SP => 3

/-- Opcode values without a handler (R61). -/
def NoHandler.opcode : NoHandler → Byte
  | .xD9 => 0xD9 | .xDD => 0xDD | .xED => 0xED | .xFD => 0xFD

/-- A three-byte instruction (F3): opcode, low byte, high byte (R51, R58). -/
def encodeF3 (op : Byte) (w : Word) : List Byte := [op, loByte w, hiByte w]

/-- The bytes of an instruction (R51, R55 to R59, R61). -/
def encode : Instr → List Byte
  | .movRR d r => [opXYZ 1 d.number r.number]
  | .movRM d => [opXYZ 1 d.number numberM]
  | .movMR r => [opXYZ 1 numberM r.number]
  | .mviR d d8 => [opXYZ 0 d.number 6, d8]
  | .mviM d8 => [opXYZ 0 numberM 6, d8]
  | .lxi rp d16 => encodeF3 (opXPQZ 0 rp.number 0 1) d16
  | .lda a16 => encodeF3 (opXYZ 0 7 2) a16
  | .sta a16 => encodeF3 (opXYZ 0 6 2) a16
  | .lhld a16 => encodeF3 (opXYZ 0 5 2) a16
  | .shld a16 => encodeF3 (opXYZ 0 4 2) a16
  | .ldax rp => [opXPQZ 0 rp.number 1 2]
  | .stax rp => [opXPQZ 0 rp.number 0 2]
  | .xchg => [opXYZ 3 5 3]
  | .addR r => [opXYZ 2 0 r.number]
  | .addM => [opXYZ 2 0 numberM]
  | .adi d8 => [opXYZ 3 0 6, d8]
  | .adcR r => [opXYZ 2 1 r.number]
  | .adcM => [opXYZ 2 1 numberM]
  | .aci d8 => [opXYZ 3 1 6, d8]
  | .subR r => [opXYZ 2 2 r.number]
  | .subM => [opXYZ 2 2 numberM]
  | .sui d8 => [opXYZ 3 2 6, d8]
  | .sbbR r => [opXYZ 2 3 r.number]
  | .sbbM => [opXYZ 2 3 numberM]
  | .sbi d8 => [opXYZ 3 3 6, d8]
  | .inrR d => [opXYZ 0 d.number 4]
  | .inrM => [opXYZ 0 numberM 4]
  | .dcrR d => [opXYZ 0 d.number 5]
  | .dcrM => [opXYZ 0 numberM 5]
  | .inx rp => [opXPQZ 0 rp.number 0 3]
  | .dcx rp => [opXPQZ 0 rp.number 1 3]
  | .dad rp => [opXPQZ 0 rp.number 1 1]
  | .daa => [opXYZ 0 4 7]
  | .anaR r => [opXYZ 2 4 r.number]
  | .anaM => [opXYZ 2 4 numberM]
  | .ani d8 => [opXYZ 3 4 6, d8]
  | .xraR r => [opXYZ 2 5 r.number]
  | .xraM => [opXYZ 2 5 numberM]
  | .xri d8 => [opXYZ 3 5 6, d8]
  | .oraR r => [opXYZ 2 6 r.number]
  | .oraM => [opXYZ 2 6 numberM]
  | .ori d8 => [opXYZ 3 6 6, d8]
  | .cmpR r => [opXYZ 2 7 r.number]
  | .cmpM => [opXYZ 2 7 numberM]
  | .cpi d8 => [opXYZ 3 7 6, d8]
  | .rlc => [opXYZ 0 0 7]
  | .rrc => [opXYZ 0 1 7]
  | .ral => [opXYZ 0 2 7]
  | .rar => [opXYZ 0 3 7]
  | .cma => [opXYZ 0 5 7]
  | .stc => [opXYZ 0 6 7]
  | .cmc => [opXYZ 0 7 7]
  | .jmp a16 => encodeF3 (opXYZ 3 0 3) a16
  | .jmpAlt a16 => encodeF3 (opXYZ 3 1 3) a16
  | .jnz a16 => encodeF3 (opXYZ 3 0 2) a16
  | .jz a16 => encodeF3 (opXYZ 3 1 2) a16
  | .jnc a16 => encodeF3 (opXYZ 3 2 2) a16
  | .jc a16 => encodeF3 (opXYZ 3 3 2) a16
  | .jpo a16 => encodeF3 (opXYZ 3 4 2) a16
  | .jpe a16 => encodeF3 (opXYZ 3 5 2) a16
  | .jp a16 => encodeF3 (opXYZ 3 6 2) a16
  | .jm a16 => encodeF3 (opXYZ 3 7 2) a16
  | .call a16 => encodeF3 (opXYZ 3 1 5) a16
  | .cnz a16 => encodeF3 (opXYZ 3 0 4) a16
  | .cz a16 => encodeF3 (opXYZ 3 1 4) a16
  | .cnc a16 => encodeF3 (opXYZ 3 2 4) a16
  | .cc a16 => encodeF3 (opXYZ 3 3 4) a16
  | .cpo a16 => encodeF3 (opXYZ 3 4 4) a16
  | .cpe a16 => encodeF3 (opXYZ 3 5 4) a16
  | .cp a16 => encodeF3 (opXYZ 3 6 4) a16
  | .cm a16 => encodeF3 (opXYZ 3 7 4) a16
  | .ret => [opXYZ 3 1 1]
  | .rnz => [opXYZ 3 0 0]
  | .rz => [opXYZ 3 1 0]
  | .rnc => [opXYZ 3 2 0]
  | .rc => [opXYZ 3 3 0]
  | .rpo => [opXYZ 3 4 0]
  | .rpe => [opXYZ 3 5 0]
  | .rp => [opXYZ 3 6 0]
  | .rm => [opXYZ 3 7 0]
  | .rst n => [opXYZ 3 n 7]
  | .pchl => [opXYZ 3 5 1]
  | .push rp => [opXPQZ 3 rp.number 0 5]
  | .pushPsw => [opXYZ 3 6 5]
  | .pop rp => [opXPQZ 3 rp.number 0 1]
  | .popPsw => [opXYZ 3 6 1]
  | .xthl => [opXYZ 3 4 3]
  | .sphl => [opXYZ 3 7 1]
  | .inPort p8 => [opXYZ 3 3 3, p8]
  | .outPort p8 => [opXYZ 3 2 3, p8]
  | .ei => [opXYZ 3 7 3]
  | .di => [opXYZ 3 6 3]
  | .hlt => [opXYZ 1 numberM numberM]
  | .nop => [opXYZ 0 0 0]
  | .nopSyn y => [opXYZ 0 y 0]
  | .unimpl op => [op.opcode]

end Sys2Proof
end

