-- ==== Sys2Proof/Config.lean ====
section
/-! DEFINITION. The named parameters of 00_scope.md R5 and the free value an IN returns. -/

namespace Sys2Proof

/-- `IO_BRIDGE` of R5 (D7): `absent`, IN and OUT are two-byte no-ops;
`present`, the environment answers IN and observes OUT. -/
inductive IoBridge where
  | absent
  | present
deriving DecidableEq, Repr

/-- The two parameters the spec leaves open (R5), held in `State.params`, which no step writes. -/
structure Params where
  /-- `INT_ACK_CLEARS_INTE` (D1): whether interrupt delivery clears `INTE`. -/
  intAckClearsInte : Bool
  /-- `IO_BRIDGE` (D7). -/
  ioBridge : IoBridge
deriving DecidableEq, Repr

/-- The free value of R220: the Byte the environment answers to IN number `n` from port `p`
while `IO_BRIDGE = present`. It has no body, so nothing can be proved of its value (U4, log 4). -/
opaque Config.ioAnswer (n : Nat) (p : Byte) : Byte

end Sys2Proof
end

