-- ==== Sys2Proof/Machine/State.lean ====
section
/-! DEFINITION. The architectural state (10_state.md), the reasons a step could stop, and reset. -/

namespace Sys2Proof.Machine

/-- The five condition flags (R14). The three reserved bits of the PSW byte are not state. -/
structure Flags where
  /-- sign -/
  s : Bool
  /-- zero -/
  z : Bool
  /-- auxiliary carry -/
  ac : Bool
  /-- parity: true iff the number of 1 bits is even -/
  p : Bool
  /-- carry -/
  cy : Bool
deriving DecidableEq, Repr

/-- "exactly 65536 bytes" (R22), as the list of the bytes that differ from their reset value 0x00,
by rising address (`Memory.wf`, Machine/Ops.lean; log 1). -/
abbrev Memory := List Host.Cell

/-- One move of the run (R6, R256): the engine's `Step`, or one of the actions the environment may
take between two of them: an interrupt request with a 3-bit vector (R242), or the clearing of a
diagnostic bit (R21). -/
inductive Turn where
  | engine
  | request (v : BitVec 3)
  | clearUnimpl
  | clearStub
deriving DecidableEq, Repr

/-- The model's own record of the environment (logs 4, 5, 6); no part of the block's state (R24). -/
structure Env where
  /-- whose moves come next, first move first; when the list is empty every move is the engine's -/
  turns : List Turn
  /-- how many INs the environment has answered; the index of the next free value -/
  inCount : Nat
  /-- the events `IoOut(port, value)` so far, oldest first (R221) -/
  outs : List (Byte × Byte)
deriving DecidableEq, Repr

/-- The state: the list at the head of 10_state.md, the parameters of R5, and the environment. -/
structure State where
  a : Byte
  b : Byte
  c : Byte
  d : Byte
  e : Byte
  h : Byte
  l : Byte
  /-- the address of the opcode byte of the instruction about to execute (R12) -/
  pc : Word
  /-- the address of the most recently pushed byte (R13) -/
  sp : Word
  flags : Flags
  /-- `INTE`, the interrupt-enable bit (R18) -/
  inte : Bool
  /-- `HALTED` (R19) -/
  halted : Bool
  /-- `UNIMPL`, sticky: an opcode without a handler was executed (R20) -/
  unimpl : Bool
  /-- `STUB`, sticky; bound to no opcode (R20, R229, D6) -/
  stub : Bool
  mem : Memory
  params : Params
  env : Env
deriving DecidableEq, Repr

/-- Reasons the machine could stop with a fault: none. "The block raises no synchronous exception"
and "`Step` always completes" (R240), so the type has no constructor. Safe. -/
inductive Fault where
deriving DecidableEq, Repr

/-- Reasons the model could refuse an instruction. -/
inductive Refusal where
  /-- An instruction without a meaning in the model, by its mnemonic. Only an arm of `exec` may raise
  it, and no arm does: every instruction has its meaning. Safe. -/
  | notModelled (mnemonic : String)
deriving DecidableEq, Repr

/-- What a step of this machine answers. -/
abbrev Result := Host.Outcome State Fault Refusal

/-- The flags "created fully cleared" (R25). -/
def Flags.clear : Flags := ⟨false, false, false, false, false⟩

/-- The state after reset (R25, R270): "every element has the value in this table; none is
unspecified". `intAckClearsInte` has the spec's default (R5, D1). The spec names no default for
`ioBridge`, and the fields of `env` are the model's own: DESIGN CHOICE (logs 3 to 6). -/
def State.reset : State where
  a := 0
  b := 0
  c := 0
  d := 0
  e := 0
  h := 0
  l := 0
  pc := 0
  sp := 0
  flags := Flags.clear
  inte := false
  halted := false
  unimpl := false
  stub := false
  mem := []
  params := { intAckClearsInte := false, ioBridge := .absent }
  env := { turns := [], inCount := 0, outs := [] }

end Sys2Proof.Machine
end

