-- ==== Sys2Proof/Machine/Flags.lean ====
section
/-! DEFINITION. Every flag computation of the spec: ZSP, AddCore, SubCore, LogicCore, INR and DCR, DAD,
DAA, the rotates, the PSW image, and the conditions. -/

namespace Sys2Proof.Machine

/-- `F.P`: 1 iff the number of 1 bits is even (R14, R90). -/
def parityEven (v : Byte) : Bool := bitCount v % 2 == 0

/-- `ZSP(v)` (R90): zero, sign and parity from `v`, the other two flags as they were. -/
def Flags.zsp (f : Flags) (v : Byte) : Flags :=
  { f with z := v == 0, s := v[7], p := parityEven v }

/-- What an operation on the accumulator returns: its Byte and the flags after it. -/
structure Alu where
  value : Byte
  flags : Flags
deriving DecidableEq, Repr

/-- `AddCore(a, op, cin)` (R91): the exact sum, its carry out of bit 7 and the true carry out of
bit 3 (D2); all five flags written. -/
def addCore (a op : Byte) (cin : Bool) : Alu :=
  let t := a.toNat + op.toNat + cin.toNat
  let v := BitVec.ofNat 8 t
  { value := v
    flags :=
      { s := v[7], z := v == 0, p := parityEven v
        ac := decide (lowNibble a + lowNibble op + cin.toNat > 0xF)
        cy := decide (t > 0xFF) } }

/-- `SubCore(a, op, bin)` (R92): the addition of the complement; `F.CY` is the complement of the
adder's carry out, so 1 means a borrow (D3). -/
def subCore (a op : Byte) (bin : Bool) : Alu :=
  let n := ~~~op
  let t := a.toNat + n.toNat + (1 - bin.toNat)
  let v := BitVec.ofNat 8 t
  { value := v
    flags :=
      { s := v[7], z := v == 0, p := parityEven v
        ac := decide (lowNibble a + lowNibble n + (1 - bin.toNat) > 0xF)
        cy := !decide (t > 0xFF) } }

/-- `LogicCore(v)` (R130): CY forced to 0, Z, S, P from `v`, "auxiliary-carry untouched". -/
def logicCore (f : Flags) (v : Byte) : Alu :=
  { value := v, flags := { f.zsp v with cy := false } }

/-- The flags of a compare (R140): those of the subtraction, Z "by direct equality of operand and
accumulator". -/
def compareFlags (a op : Byte) : Flags := { (subCore a op false).flags with z := a == op }

/-- INR (R108): `v + 1`, AC its carry out of bit 3, "carry is explicitly unaffected". -/
def incCore (f : Flags) (v : Byte) : Alu :=
  { value := v + 1, flags := { f.zsp (v + 1) with ac := lowNibble v == 0xF } }

/-- DCR (R110): `v - 1`, AC the carry out of bit 3 of `v + 0xFF`, CY unaffected. -/
def decCore (f : Flags) (v : Byte) : Alu :=
  { value := v - 1, flags := { f.zsp (v - 1) with ac := lowNibble v != 0 } }

/-- The carry of DAD (R114): out of bit 15 of the exact sum; no other flag is written. -/
def Flags.dad (f : Flags) (x y : Word) : Flags :=
  { f with cy := decide (x.toNat + y.toNat > 0xFFFF) }

/-- DAA (R115, D4): stage 1 keeps its sum to 9 bits; a stage that does not run leaves its flag. -/
def daaCore (f : Flags) (a : Byte) : Alu :=
  let stage1 : Bool := decide (lowNibble a > 9) || f.ac
  let t1 := if stage1 then a.toNat + 6 else a.toNat
  let ac := if stage1 then decide (lowNibble a + 6 > 0xF) else f.ac
  let stage2 : Bool := decide (t1 / 16 > 9) || f.cy
  let t2 := if stage2 then t1 + 0x60 else t1
  let v := BitVec.ofNat 8 t2
  { value := v, flags := { f.zsp v with ac := ac, cy := stage2 || f.cy } }

/-- RLC (R143): bit 7 enters at bit 0 and is copied to CY. -/
def rotateLeft (f : Flags) (a : Byte) : Alu :=
  { value := (a <<< 1) ||| bitAt a[7] 0, flags := { f with cy := a[7] } }

/-- RRC (R144): bit 0 enters at bit 7 and is copied to CY. -/
def rotateRight (f : Flags) (a : Byte) : Alu :=
  { value := (a >>> 1) ||| bitAt a[0] 7, flags := { f with cy := a[0] } }

/-- RAL (R145): the old CY enters at bit 0, bit 7 becomes CY. -/
def rotateLeftCarry (f : Flags) (a : Byte) : Alu :=
  { value := (a <<< 1) ||| bitAt f.cy 0, flags := { f with cy := a[7] } }

/-- RAR (R146): the old CY enters at bit 7, bit 0 becomes CY. -/
def rotateRightCarry (f : Flags) (a : Byte) : Alu :=
  { value := (a >>> 1) ||| bitAt f.cy 7, flags := { f with cy := a[0] } }

/-- `ToPSW(F)` (R16): the PSW byte with its reserved bits 1, 0, 0. -/
def Flags.toPsw (f : Flags) : Byte :=
  bitAt f.s 7 ||| bitAt f.z 6 ||| bitAt f.ac 4 ||| bitAt f.p 2 ||| 0x02#8 ||| bitAt f.cy 0

/-- `FromPSW(b)` (R16): bits 5, 3 and 1 are ignored. -/
def Flags.ofPsw (b : Byte) : Flags := { s := b[7], z := b[6], ac := b[4], p := b[2], cy := b[0] }

/-- `Cond(ccc)` (R160). -/
def Flags.satisfies (f : Flags) : Cond → Bool
  | .nz => !f.z
  | .z => f.z
  | .nc => !f.cy
  | .c => f.cy
  | .po => !f.p
  | .pe => f.p
  | .p => !f.s
  | .m => f.s

end Sys2Proof.Machine
end

