-- ==== Sys2Proof/Machine/Memory.lean ====
section
/-! DEFINITION. Memory (10_state.md R22, 20_memory.md R30 to R37): its canonical form, the read and the
write of one byte, and the two-byte quantities made of them. -/

namespace Sys2Proof.Machine

/-! ### The list (log 1) -/

/-- What an address the list does not hold reads as: the reset value "every byte 0" (R22, R25). -/
def Memory.unlisted : Byte := 0

/-- The canonical form: addresses strictly rising, inside the 64 KiB, no entry equal to what an
unlisted address reads as. -/
abbrev Memory.wf (m : Memory) : Prop :=
  m.Pairwise (fun x y => x.1 < y.1) ∧ ∀ x ∈ m, x.1 < 65536 ∧ x.2 ≠ Memory.unlisted

/-- The Byte at address `k`. -/
def Memory.read : Memory → Nat → Byte
  | [], _ => Memory.unlisted
  | x :: m, k => if x.1 = k then x.2 else Memory.read m k

/-- The list without address `k`. -/
def Memory.erase : Memory → Nat → Memory
  | [], _ => []
  | x :: m, k => if x.1 = k then Memory.erase m k else x :: Memory.erase m k

/-- The list with `(k, v)` before the first higher address. -/
def Memory.insert : Memory → Nat → Byte → Memory
  | [], k, v => [(k, v)]
  | x :: m, k, v => if k < x.1 then (k, v) :: x :: m else x :: Memory.insert m k v

/-- Writing a Byte, in the canonical form: the value an unlisted address reads as takes the entry
away. "Every write succeeds" (R30). -/
def Memory.write (m : Memory) (k : Nat) (v : Byte) : Memory :=
  if v = Memory.unlisted then Memory.erase m k else Memory.insert (Memory.erase m k) k v

/-! ### The interface, one byte at a time (R30) -/

/-- `MemRead(a, 1)` (R8). -/
def State.readByte (s : State) (a : Word) : Byte := Memory.read s.mem a.toNat

/-- `MemWrite(a, 1, v)` (R8). -/
def State.writeByte (s : State) (a : Word) (v : Byte) : State :=
  { s with mem := Memory.write s.mem a.toNat v }

/-- `MemRead(a, 2)` (R8, R31): the low byte at `a`, the high byte at `a + 1` modulo 65536. -/
def State.readWord (s : State) (a : Word) : Word := joinBytes (s.readByte (a + 1)) (s.readByte a)

/-- `MemWrite(a, 2, v)` (R8, R31): the low byte at `a`, then the high byte at `a + 1` modulo 65536. -/
def State.writeWord (s : State) (a : Word) (v : Word) : State :=
  (s.writeByte a (loByte v)).writeByte (a + 1) (hiByte v)

end Sys2Proof.Machine
end

