-- ==== Sys2Proof/Machine/Operands.lean ====
section
/-! DEFINITION. The operand forms: registers (R55), pairs (R56) and the memory operand `M`, each with
its one read and its one write. -/

namespace Sys2Proof.Machine

/-! ### Registers (R10, R55) -/

/-- `R[n]` read. -/
def State.reg (s : State) : Reg → Byte
  | .B => s.b
  | .C => s.c
  | .D => s.d
  | .E => s.e
  | .H => s.h
  | .L => s.l
  | .A => s.a

/-- `R[n] <- v`. -/
def State.setReg (s : State) (r : Reg) (v : Byte) : State :=
  match r with
  | .B => { s with b := v }
  | .C => { s with c := v }
  | .D => { s with d := v }
  | .E => { s with e := v }
  | .H => { s with h := v }
  | .L => { s with l := v }
  | .A => { s with a := v }

/-! ### Register pairs (R11, R56): "not a distinct storage location" -/

/-- `RP[n]` read: the first-named register is the high byte. -/
def State.pair (s : State) : RegPair → Word
  | .BC => joinBytes s.b s.c
  | .DE => joinBytes s.d s.e
  | .HL => joinBytes s.h s.l
  | .SP => s.sp

/-- `RP[n] <- w`: `w[15:8]` to the first-named register and `w[7:0]` to the second. -/
def State.setPair (s : State) (rp : RegPair) (w : Word) : State :=
  match rp with
  | .BC => { s with b := hiByte w, c := loByte w }
  | .DE => { s with d := hiByte w, e := loByte w }
  | .HL => { s with h := hiByte w, l := loByte w }
  | .SP => { s with sp := w }

/-- The operand `M`: "the memory cell addressed by HL" (R55). -/
def State.readM (s : State) : Byte := s.readByte (s.pair .HL)

/-- Writing the operand `M`. -/
def State.writeM (s : State) (v : Byte) : State := s.writeByte (s.pair .HL) v

end Sys2Proof.Machine
end

