-- ==== Sys2Proof/Machine/Ops.lean ====
section
/-! DEFINITION. The operations the meanings share: advancing and transferring control, the stack,
interrupt entry and the return from it, the diagnostic bits, and the environment's actions. -/

namespace Sys2Proof.Machine

/-! ### The program counter (R12, R50) -/

/-- `pc <- (pc + length) mod 65536`. -/
def State.advance (s : State) (n : Nat) : State := { s with pc := s.pc + BitVec.ofNat 16 n }

/-- `pc <- target`, a control transfer. -/
def State.goto (s : State) (target : Word) : State := { s with pc := target }

/-! ### Flags and the accumulator -/

/-- All five flags written. -/
def State.setFlags (s : State) (f : Flags) : State := { s with flags := f }

/-- `A` and the flags take what an operation on the accumulator returned. -/
def State.setAlu (s : State) (r : Alu) : State := { s with a := r.value, flags := r.flags }

/-! ### The status bits (R18 to R20) -/

/-- `INTE <- x`. -/
def State.setInte (s : State) (x : Bool) : State := { s with inte := x }

/-- `HALTED <- x`. -/
def State.setHalted (s : State) (x : Bool) : State := { s with halted := x }

/-- `UNIMPL <- x`. -/
def State.setUnimpl (s : State) (x : Bool) : State := { s with unimpl := x }

/-- `STUB <- x`. -/
def State.setStub (s : State) (x : Bool) : State := { s with stub := x }

/-! ### The stack (R38, R39) -/

/-- `sp <- w`. -/
def State.setSp (s : State) (w : Word) : State := { s with sp := w }

/-- `Push(w)` (R38): high byte at `sp - 1`, low byte at `sp - 2`, then `sp -= 2`, modulo 65536. -/
def State.push (s : State) (w : Word) : State :=
  ((s.writeByte (s.sp - 1) (hiByte w)).writeByte (s.sp - 2) (loByte w)).setSp (s.sp - 2)

/-- The Word `Pop()` returns (R39): low byte at `sp`, high byte at `sp + 1`. -/
def State.top (s : State) : Word := joinBytes (s.readByte (s.sp + 1)) (s.readByte s.sp)

/-- The state after `Pop()` (R39): `sp += 2`; "Memory is not changed". -/
def State.drop (s : State) : State := s.setSp (s.sp + 2)

/-! ### Entering and leaving a subroutine, a restart or an interrupt handler -/

/-- The fixed entry address `8 * n` of restart or vector `n` (R36, R58, R188, R243). -/
def vectorAddress (n : BitVec 3) : Word := BitVec.ofNat 16 (8 * n.toNat)

/-- `Push(ret)`, then `pc <- target`: the entry CALL (R170), RST (R188) and interrupt delivery
(R243) share. -/
def State.enter (s : State) (ret target : Word) : State := (s.push ret).goto target

/-- `pc <- Pop()`: RET (R179), also the return from an interrupt handler (R247). -/
def State.leave (s : State) : State := s.drop.goto s.top

/-- `DeliverInterrupt(v)` (R243): the pushed Word is `pc` itself; `INTE` is cleared only under the
parameter `INT_ACK_CLEARS_INTE` (D1); nothing else changes. -/
def State.deliverInterrupt (s : State) (v : BitVec 3) : State :=
  (s.enter s.pc (vectorAddress v)).setInte (if s.params.intAckClearsInte then false else s.inte)

/-- `Request(v)` (R244, D19): `if INTE = 1 then DeliverInterrupt(v)`; otherwise the request "has no
effect on the block". -/
def State.request (s : State) (v : BitVec 3) : State := if s.inte then s.deliverInterrupt v else s

/-! ### The diagnostic bits (R20, R21) -/

/-- The unimplemented-opcode behaviour (R228): `UNIMPL <- 1`, one byte. -/
def State.reportUnimpl (s : State) : State := (s.advance 1).setUnimpl true

/-- The "todo" stub behaviour (R229): `STUB <- 1`, one byte. It is bound to no opcode (D6), so no
meaning calls it. -/
def State.reportStub (s : State) : State := (s.advance 1).setStub true

/-! ### The ports (R220, R221) -/

/-- `A <- IoIn(p)` with the bridge present: a Byte the environment chooses, a free value (log 4). -/
def State.portIn (s : State) (p : Byte) : State :=
  match s.params.ioBridge with
  | .absent => s
  | .present =>
    { s with a := Config.ioAnswer s.env.inCount p, env := { s.env with inCount := s.env.inCount + 1 } }

/-- `IoOut(p, A)` with the bridge present: an event the environment observes (log 5). -/
def State.portOut (s : State) (p : Byte) : State :=
  match s.params.ioBridge with
  | .absent => s
  | .present => { s with env := { s.env with outs := s.env.outs ++ [(p, s.a)] } }

/-! ### Conditional transfers (R160 to R187) -/

/-- `if Cond(cond) then pc <- a16 else pc <- pc + 3`. -/
def State.jumpIf (s : State) (cond : Cond) (a16 : Word) : State :=
  if s.flags.satisfies cond then s.goto a16 else s.advance 3

/-- CALL (R170): push the address of the following instruction, then jump. -/
def State.callTo (s : State) (a16 : Word) : State := s.enter (s.pc + 3) a16

/-- The conditional call: CALL, or past the three bytes "with no stack access". -/
def State.callIf (s : State) (cond : Cond) (a16 : Word) : State :=
  if s.flags.satisfies cond then s.callTo a16 else s.advance 3

/-- The conditional return: RET, or past the one byte "with no stack access". -/
def State.leaveIf (s : State) (cond : Cond) : State :=
  if s.flags.satisfies cond then s.leave else s.advance 1

/-! ### The environment's moves (R6, R21, R244) -/

/-- What a move of the environment does to the state; the engine's own move is `engineStep`. -/
def State.environmentMove (s : State) : Turn → State
  | .engine => s
  | .request v => s.request v
  | .clearUnimpl => s.setUnimpl false
  | .clearStub => s.setStub false

end Sys2Proof.Machine
end

