-- ==== Sys2Proof/Machine/Arithmetic.lean ====
section
/-! DEFINITION. The arithmetic instructions (41_arithmetic.md R93 to R115). -/

namespace Sys2Proof.Machine

/-! ### Add and subtract (R93 to R104) -/

/-- ADD r (R93). -/
def execAddR (r : Reg) (s : State) : Result :=
  .next ((s.setAlu (addCore s.a (s.reg r) false)).advance 1)

/-- ADD M (R94). -/
def execAddM (s : State) : Result := .next ((s.setAlu (addCore s.a s.readM false)).advance 1)

/-- ADI d8 (R95). -/
def execAdi (d8 : Byte) (s : State) : Result := .next ((s.setAlu (addCore s.a d8 false)).advance 2)

/-- ADC r (R96). -/
def execAdcR (r : Reg) (s : State) : Result :=
  .next ((s.setAlu (addCore s.a (s.reg r) s.flags.cy)).advance 1)

/-- ADC M (R97). -/
def execAdcM (s : State) : Result := .next ((s.setAlu (addCore s.a s.readM s.flags.cy)).advance 1)

/-- ACI d8 (R98). -/
def execAci (d8 : Byte) (s : State) : Result := .next ((s.setAlu (addCore s.a d8 s.flags.cy)).advance 2)

/-- SUB r (R99). -/
def execSubR (r : Reg) (s : State) : Result :=
  .next ((s.setAlu (subCore s.a (s.reg r) false)).advance 1)

/-- SUB M (R100). -/
def execSubM (s : State) : Result := .next ((s.setAlu (subCore s.a s.readM false)).advance 1)

/-- SUI d8 (R101). -/
def execSui (d8 : Byte) (s : State) : Result := .next ((s.setAlu (subCore s.a d8 false)).advance 2)

/-- SBB r (R102). -/
def execSbbR (r : Reg) (s : State) : Result :=
  .next ((s.setAlu (subCore s.a (s.reg r) s.flags.cy)).advance 1)

/-- SBB M (R103). -/
def execSbbM (s : State) : Result := .next ((s.setAlu (subCore s.a s.readM s.flags.cy)).advance 1)

/-- SBI d8 (R104). -/
def execSbi (d8 : Byte) (s : State) : Result := .next ((s.setAlu (subCore s.a d8 s.flags.cy)).advance 2)

/-! ### Increment and decrement (R108 to R111) -/

/-- INR r (R108). -/
def execInrR (d : Reg) (s : State) : Result :=
  let t := incCore s.flags (s.reg d)
  .next (((s.setReg d t.value).setFlags t.flags).advance 1)

/-- INR M (R109): "explicit read → compute → write". -/
def execInrM (s : State) : Result :=
  let t := incCore s.flags s.readM
  .next (((s.writeM t.value).setFlags t.flags).advance 1)

/-- DCR r (R110). -/
def execDcrR (d : Reg) (s : State) : Result :=
  let t := decCore s.flags (s.reg d)
  .next (((s.setReg d t.value).setFlags t.flags).advance 1)

/-- DCR M (R111): "explicit read → compute → write". -/
def execDcrM (s : State) : Result :=
  let t := decCore s.flags s.readM
  .next (((s.writeM t.value).setFlags t.flags).advance 1)

/-! ### Sixteen-bit arithmetic (R112 to R114) -/

/-- INX rp (R112): no flag, modulo 65536. -/
def execInx (rp : RegPair) (s : State) : Result := .next ((s.setPair rp (s.pair rp + 1)).advance 1)

/-- DCX rp (R113): no flag, modulo 65536. -/
def execDcx (rp : RegPair) (s : State) : Result := .next ((s.setPair rp (s.pair rp - 1)).advance 1)

/-- DAD rp (R114): `H:L <- H:L + RP[rp]`, the carry out of bit 15 to CY. -/
def execDad (rp : RegPair) (s : State) : Result :=
  let t := s.setFlags (s.flags.dad (s.pair .HL) (s.pair rp))
  .next ((t.setPair .HL (s.pair .HL + s.pair rp)).advance 1)

/-! ### Decimal adjust (R115) -/

/-- DAA (R115). -/
def execDaa (s : State) : Result := .next ((s.setAlu (daaCore s.flags s.a)).advance 1)

end Sys2Proof.Machine
end

