-- ==== Sys2Proof/Machine/Control.lean ====
section
/-! DEFINITION. The control transfer instructions (43_control_flow.md R161 to R189). None writes a
flag; every target is absolute (R190). -/

namespace Sys2Proof.Machine

/-! ### Jumps (R161 to R169) -/

/-- JMP a16, opcode 0xC3 (R161). -/
def execJmp (a16 : Word) (s : State) : Result := .next (s.goto a16)

/-- JMP a16, opcode 0xCB: "behaves exactly as JMP" (R60, R161). -/
def execJmpAlt (a16 : Word) (s : State) : Result := .next (s.goto a16)

/-- JNZ a16 (R162): taken on zero clear. -/
def execJnz (a16 : Word) (s : State) : Result := .next (s.jumpIf .nz a16)

/-- JZ a16 (R163): taken on zero set. -/
def execJz (a16 : Word) (s : State) : Result := .next (s.jumpIf .z a16)

/-- JNC a16 (R164): taken on carry clear. -/
def execJnc (a16 : Word) (s : State) : Result := .next (s.jumpIf .nc a16)

/-- JC a16 (R165): taken on carry set. -/
def execJc (a16 : Word) (s : State) : Result := .next (s.jumpIf .c a16)

/-- JPO a16 (R166): taken on parity odd. -/
def execJpo (a16 : Word) (s : State) : Result := .next (s.jumpIf .po a16)

/-- JPE a16 (R167): taken on parity even. -/
def execJpe (a16 : Word) (s : State) : Result := .next (s.jumpIf .pe a16)

/-- JP a16 (R168): taken on sign clear. -/
def execJp (a16 : Word) (s : State) : Result := .next (s.jumpIf .p a16)

/-- JM a16 (R169): taken on sign set. -/
def execJm (a16 : Word) (s : State) : Result := .next (s.jumpIf .m a16)

/-! ### Calls (R170 to R178) -/

/-- CALL a16 (R170). -/
def execCall (a16 : Word) (s : State) : Result := .next (s.callTo a16)

/-- CNZ a16 (R171): taken on zero clear. -/
def execCnz (a16 : Word) (s : State) : Result := .next (s.callIf .nz a16)

/-- CZ a16 (R172): taken on zero set. -/
def execCz (a16 : Word) (s : State) : Result := .next (s.callIf .z a16)

/-- CNC a16 (R173): taken on carry clear. -/
def execCnc (a16 : Word) (s : State) : Result := .next (s.callIf .nc a16)

/-- CC a16 (R174): taken on carry set. -/
def execCc (a16 : Word) (s : State) : Result := .next (s.callIf .c a16)

/-- CPO a16 (R175): taken on parity odd. -/
def execCpo (a16 : Word) (s : State) : Result := .next (s.callIf .po a16)

/-- CPE a16 (R176): taken on parity even. -/
def execCpe (a16 : Word) (s : State) : Result := .next (s.callIf .pe a16)

/-- CP a16 (R177): taken on sign clear. -/
def execCp (a16 : Word) (s : State) : Result := .next (s.callIf .p a16)

/-- CM a16 (R178): taken on sign set. -/
def execCm (a16 : Word) (s : State) : Result := .next (s.callIf .m a16)

/-! ### Returns (R179 to R187) -/

/-- RET (R179). -/
def execRet (s : State) : Result := .next s.leave

/-- RNZ (R180): taken on zero clear. -/
def execRnz (s : State) : Result := .next (s.leaveIf .nz)

/-- RZ (R181): taken on zero set. -/
def execRz (s : State) : Result := .next (s.leaveIf .z)

/-- RNC (R182): taken on carry clear. -/
def execRnc (s : State) : Result := .next (s.leaveIf .nc)

/-- RC (R183): taken on carry set. -/
def execRc (s : State) : Result := .next (s.leaveIf .c)

/-- RPO (R184): taken on parity odd. -/
def execRpo (s : State) : Result := .next (s.leaveIf .po)

/-- RPE (R185): taken on parity even. -/
def execRpe (s : State) : Result := .next (s.leaveIf .pe)

/-- RP (R186): taken on sign clear. -/
def execRp (s : State) : Result := .next (s.leaveIf .p)

/-- RM (R187): taken on sign set. -/
def execRm (s : State) : Result := .next (s.leaveIf .m)

/-! ### Restart and indirect jump (R188, R189) -/

/-- RST n (R188): "behaves as CALL with a fixed destination `8 * n` and no operand bytes". -/
def execRst (n : BitVec 3) (s : State) : Result := .next (s.enter (s.pc + 1) (vectorAddress n))

/-- PCHL (R189): `pc <- H:L`. -/
def execPchl (s : State) : Result := .next (s.goto (s.pair .HL))

end Sys2Proof.Machine
end

