-- ==== Sys2Proof/Machine/DataTransfer.lean ====
section
/-! DEFINITION. The data transfer instructions (40_data_transfer.md R70 to R82). None reads or writes
a flag. -/

namespace Sys2Proof.Machine

/-- MOV r1,r2 (R70): `R[ddd] <- R[sss]`. -/
def execMovRR (d r : Reg) (s : State) : Result := .next ((s.setReg d (s.reg r)).advance 1)

/-- MOV r,M (R71): the byte at the old `H:L`. -/
def execMovRM (d : Reg) (s : State) : Result := .next ((s.setReg d s.readM).advance 1)

/-- MOV M,r (R72). -/
def execMovMR (r : Reg) (s : State) : Result := .next ((s.writeM (s.reg r)).advance 1)

/-- MVI r,d8 (R73). -/
def execMviR (d : Reg) (d8 : Byte) (s : State) : Result := .next ((s.setReg d d8).advance 2)

/-- MVI M,d8 (R74). -/
def execMviM (d8 : Byte) (s : State) : Result := .next ((s.writeM d8).advance 2)

/-- LXI rp,d16 (R75). -/
def execLxi (rp : RegPair) (d16 : Word) (s : State) : Result := .next ((s.setPair rp d16).advance 3)

/-- LDA a16 (R76). -/
def execLda (a16 : Word) (s : State) : Result := .next ((s.setReg .A (s.readByte a16)).advance 3)

/-- STA a16 (R77). -/
def execSta (a16 : Word) (s : State) : Result := .next ((s.writeByte a16 (s.reg .A)).advance 3)

/-- LHLD a16 (R78): `L` from `a16`, `H` from `a16 + 1`. -/
def execLhld (a16 : Word) (s : State) : Result :=
  .next ((s.setPair .HL (s.readWord a16)).advance 3)

/-- SHLD a16 (R79): `L` to `a16`, `H` to `a16 + 1`. -/
def execShld (a16 : Word) (s : State) : Result :=
  .next ((s.writeWord a16 (s.pair .HL)).advance 3)

/-- LDAX rp (R80). -/
def execLdax (rp : RegPair) (s : State) : Result :=
  .next ((s.setReg .A (s.readByte (s.pair rp))).advance 1)

/-- STAX rp (R81). -/
def execStax (rp : RegPair) (s : State) : Result :=
  .next ((s.writeByte (s.pair rp) (s.reg .A)).advance 1)

/-- XCHG (R82): "all four right-hand sides taken before the instruction". -/
def execXchg (s : State) : Result :=
  .next (((s.setPair .HL (s.pair .DE)).setPair .DE (s.pair .HL)).advance 1)

end Sys2Proof.Machine
end

