-- ==== Sys2Proof/Machine/Logical.lean ====
section
/-! DEFINITION. The logical, compare, rotate, complement and carry instructions
(42_logical_rotate.md R131 to R149). None writes memory. -/

namespace Sys2Proof.Machine

/-! ### Logical operations (R131 to R139) -/

/-- ANA r (R131). -/
def execAnaR (r : Reg) (s : State) : Result :=
  .next ((s.setAlu (logicCore s.flags (s.a &&& s.reg r))).advance 1)

/-- ANA M (R132). -/
def execAnaM (s : State) : Result :=
  .next ((s.setAlu (logicCore s.flags (s.a &&& s.readM))).advance 1)

/-- ANI d8 (R133). -/
def execAni (d8 : Byte) (s : State) : Result :=
  .next ((s.setAlu (logicCore s.flags (s.a &&& d8))).advance 2)

/-- XRA r (R134). -/
def execXraR (r : Reg) (s : State) : Result :=
  .next ((s.setAlu (logicCore s.flags (s.a ^^^ s.reg r))).advance 1)

/-- XRA M (R135). -/
def execXraM (s : State) : Result :=
  .next ((s.setAlu (logicCore s.flags (s.a ^^^ s.readM))).advance 1)

/-- XRI d8 (R136). -/
def execXri (d8 : Byte) (s : State) : Result :=
  .next ((s.setAlu (logicCore s.flags (s.a ^^^ d8))).advance 2)

/-- ORA r (R137). -/
def execOraR (r : Reg) (s : State) : Result :=
  .next ((s.setAlu (logicCore s.flags (s.a ||| s.reg r))).advance 1)

/-- ORA M (R138). -/
def execOraM (s : State) : Result :=
  .next ((s.setAlu (logicCore s.flags (s.a ||| s.readM))).advance 1)

/-- ORI d8 (R139). -/
def execOri (d8 : Byte) (s : State) : Result :=
  .next ((s.setAlu (logicCore s.flags (s.a ||| d8))).advance 2)

/-! ### Compare (R140 to R142): "writes no result back" -/

/-- CMP r (R140). -/
def execCmpR (r : Reg) (s : State) : Result :=
  .next ((s.setFlags (compareFlags s.a (s.reg r))).advance 1)

/-- CMP M (R141). -/
def execCmpM (s : State) : Result := .next ((s.setFlags (compareFlags s.a s.readM)).advance 1)

/-- CPI d8 (R142). -/
def execCpi (d8 : Byte) (s : State) : Result :=
  .next ((s.setFlags (compareFlags s.a d8)).advance 2)

/-! ### Rotates (R143 to R146) -/

/-- RLC (R143). -/
def execRlc (s : State) : Result := .next ((s.setAlu (rotateLeft s.flags s.a)).advance 1)

/-- RRC (R144). -/
def execRrc (s : State) : Result := .next ((s.setAlu (rotateRight s.flags s.a)).advance 1)

/-- RAL (R145). -/
def execRal (s : State) : Result := .next ((s.setAlu (rotateLeftCarry s.flags s.a)).advance 1)

/-- RAR (R146). -/
def execRar (s : State) : Result := .next ((s.setAlu (rotateRightCarry s.flags s.a)).advance 1)

/-! ### Complement and carry (R147 to R149) -/

/-- CMA (R147): no flag. -/
def execCma (s : State) : Result := .next ((s.setReg .A (~~~s.a)).advance 1)

/-- STC (R148). -/
def execStc (s : State) : Result := .next ((s.setFlags { s.flags with cy := true }).advance 1)

/-- CMC (R149). -/
def execCmc (s : State) : Result :=
  .next ((s.setFlags { s.flags with cy := !s.flags.cy }).advance 1)

end Sys2Proof.Machine
end

