-- ==== Sys2Proof/Machine/System.lean ====
section
/-! DEFINITION. The stack, input/output and machine-control instructions
(44_stack_io_machine.md R210 to R229). Only POP PSW writes flags. -/

namespace Sys2Proof.Machine

/-! ### Stack (R210 to R216) -/

/-- PUSH rp (R210). -/
def execPush (rp : RegPair) (s : State) : Result := .next ((s.push (s.pair rp)).advance 1)

/-- PUSH PSW (R212): `Push(A : ToPSW(F))`. -/
def execPushPsw (s : State) : Result :=
  .next ((s.push (joinBytes s.a s.flags.toPsw)).advance 1)

/-- POP rp (R213): the Word from the old `sp`. -/
def execPop (rp : RegPair) (s : State) : Result := .next ((s.drop.setPair rp s.top).advance 1)

/-- POP PSW (R214): the flags from the low byte, `A` from the high byte. -/
def execPopPsw (s : State) : Result :=
  let w := s.top
  .next ((s.drop.setAlu { value := hiByte w, flags := Flags.ofPsw (loByte w) }).advance 1)

/-- XTHL (R215): both reads before both writes; `sp` unchanged. -/
def execXthl (s : State) : Result :=
  .next (((s.writeWord s.sp (s.pair .HL)).setPair .HL (s.readWord s.sp)).advance 1)

/-- SPHL (R216). -/
def execSphl (s : State) : Result := .next ((s.setPair .SP (s.pair .HL)).advance 1)

/-! ### Input and output (R220, R221) -/

/-- IN p8 (R220). -/
def execInPort (p8 : Byte) (s : State) : Result := .next ((s.portIn p8).advance 2)

/-- OUT p8 (R221). -/
def execOutPort (p8 : Byte) (s : State) : Result := .next ((s.portOut p8).advance 2)

/-! ### Interrupt enable, halt, no-operation (R222 to R226) -/

/-- EI (R222): effective at the end of this step (D10). -/
def execEi (s : State) : Result := .next ((s.setInte true).advance 1)

/-- DI (R223). -/
def execDi (s : State) : Result := .next ((s.setInte false).advance 1)

/-- HLT (R224): raises the output `HALTED`; "does not stop the engine". -/
def execHlt (s : State) : Result := .next ((s.setHalted true).advance 1)

/-- NOP, opcode 0x00 (R225). -/
def execNop (s : State) : Result := .next (s.advance 1)

/-- A NOP synonym (R226): "exactly as rule R225", whichever of the seven it is. -/
def execNopSyn (_y : BitVec 3) (s : State) : Result := .next (s.advance 1)

/-! ### Opcodes without a handler (R228) -/

/-- 0xD9, 0xDD, 0xED, 0xFD (R228, R258): a status report, not a trap. -/
def execUnimpl (_op : NoHandler) (s : State) : Result := .next s.reportUnimpl

end Sys2Proof.Machine
end

