-- ==== Sys2Proof/Machine/Engine.lean ====
section
/-! DEFINITION. Fetching an instruction and one move of the run: the engine's `Step`
(30_encoding.md R50) or an action of the environment (00_scope.md R6). -/

namespace Sys2Proof.Machine

/-- The instruction at `pc` (R34, R50): the opcode is read, then as many operand bytes as its length
says, at `pc + 1` and `pc + 2` modulo 65536, and decoded. -/
def State.fetch (s : State) : Instr :=
  let op := s.readByte s.pc
  match opLength op with
  | 1 => decodeOp op 0 0
  | 2 => decodeOp op (s.readByte (s.pc + 1)) 0
  | _ => decodeOp op (s.readByte (s.pc + 1)) (s.readByte (s.pc + 2))

/-- `Step` (R50): "conditioned on" no state, not even `HALTED` (R19, R279). -/
def engineStep (s : State) : Result := exec s.fetch s

/-- The state once the move at the head of `turns` has been taken off the list. -/
def State.withTurns (s : State) (ts : List Turn) : State := { s with env := { s.env with turns := ts } }

/-- One move: the environment's, if the next turn is one of its actions (R6, R244); otherwise the
engine's `Step`. -/
def oneMove (s : State) : Result :=
  match s.env.turns with
  | [] => engineStep s
  | .engine :: ts => engineStep (s.withTurns ts)
  | turn :: ts => .next ((s.withTurns ts).environmentMove turn)

/-- The bytes `bs` written from address `a` on, modulo 65536. -/
def State.writeBytes (s : State) (a : Word) : List Byte → State
  | [] => s
  | v :: bs => (s.writeByte a v).writeBytes (a + 1) bs

end Sys2Proof.Machine
end

