-- ==== Sys2Proof/Machine/Step.lean ====
section
/-! DEFINITION. The step, and the host's way of placing the next instruction. -/

namespace Sys2Proof.Machine

/-- One move of the run. With no action of the environment at the head of `env.turns` it is the
engine's `Step` (R50). -/
def step (s : State) : Host.Outcome State Fault Refusal := oneMove s

/-- `s` with the instruction `w` stored at `pc`, `pc + 1`, `pc + 2`, and the environment standing
aside, so that the very next step fetches and runs it (log 7). -/
def State.withFetchWord (s : State) (nbits w : Nat) : State :=
  (s.writeBytes s.pc (tableBytes nbits w)).withTurns []

end Sys2Proof.Machine
end

