-- ==== Sys2Proof/Machine/Run.lean ====
section
/-! DEFINITION. Launch and the end of a run (70_reset_and_hazards.md R273, 60_exceptions.md R256, R257). -/

namespace Sys2Proof.Machine

/-- The bytes of an image at addresses `o`, `o + 1`, ... -/
def Memory.load (m : Memory) (o : Nat) : List Byte → Memory
  | [] => m
  | v :: bs => Memory.load (Memory.write m o v) (o + 1) bs

/-- Placing the images in order, each at its origin; `none` when one does not fit, "reported, never
silently truncated" (R273, R257). -/
def Memory.loadAll (m : Memory) : List (Nat × List Byte) → Option Memory
  | [] => some m
  | (o, image) :: rest =>
    if o + image.length ≤ 65536 then Memory.loadAll (Memory.load m o image) rest else none

/-- The launch state (R273, D16): the reset state with memory and `pc` replaced by the
environment's choices; `none` means "there is no run". -/
def launch (images : List (Nat × List Byte)) (entry : Word) : Option State :=
  (Memory.loadAll State.reset.mem images).map fun m => { State.reset with mem := m, pc := entry }

/-- The run convention (R256, D8): moves are made until `HALTED = 1`, at most `n` of them. -/
def runUntilHalted : Nat → State → Result
  | 0, s => .next s
  | n + 1, s =>
    if s.halted then .next s
    else
      match step s with
      | .next t => runUntilHalted n t
      | .fault r => .fault r
      | .refused r => .refused r

end Sys2Proof.Machine
end

