-- ==== Sys2Proof/Safety.lean ====
section
/-! DEFINITION. The terms claims use: the invariant of a state, what an instruction leaves alone, and
when a run ends well. -/

namespace Sys2Proof.Machine

/-- The invariant: memory is in its canonical form (log 1). Every value of every other field is legal:
the block has one mode and no reserved state (R10, R12, R13, R24, R250). -/
def State.Inv (s : State) : Prop := Memory.wf s.mem

/-- The frame of an instruction: every register but those in `regs`, every byte of memory but those at
the addresses in `stored`, the status bits, the parameters and the environment are as before.
`pc`, `sp` and the flags are spoken of where the frame is used. -/
structure Frame (s t : State) (regs : List Reg) (stored : List Word) : Prop where
  regs : ∀ r, r ∉ regs → t.reg r = s.reg r
  mem : ∀ a, a ∉ stored → t.readByte a = s.readByte a
  inte : t.inte = s.inte
  halted : t.halted = s.halted
  unimpl : t.unimpl = s.unimpl
  stub : t.stub = s.stub
  params : t.params = s.params
  env : t.env = s.env

/-- A run from `s` that ended within `n` moves and whose end state is a claim about the program: HLT was
executed and no opcode without a handler was (R20, R256, U1). -/
def EndsWell (n : Nat) (s t : State) : Prop :=
  runUntilHalted n s = .next t ∧ t.halted = true ∧ t.unimpl = false

end Sys2Proof.Machine
end

