-- ==== Sys2Proof/Certificates/Slice0/Obligations.lean ====
section
/-! DEFINITION. The statements for the provers. Each says in the spec's own terms what a rule says; the
helper definitions before them are tables and formulas copied from the rules named at each. -/

namespace Sys2Proof.Claims

open Sys2Proof.Machine

/-! ### Tables and formulas of the rules -/

/-- The bytes `bs` are the instruction `i` and nothing more. -/
def Encodes (i : Instr) (bs : List Byte) : Prop := decode bs = .ok (i, [])

/-- Register numbers (R55). -/
def regCode : Reg → Nat
  | .B => 0 | .C => 1 | .D => 2 | .E => 3 | .H => 4 | .L => 5 | .A => 7

/-- Register-pair numbers (R56). -/
def pairCode : RegPair → Nat
  | .BC => 0 | .DE => 1 | .HL => 2 | .SP => 3

/-- The registers a pair is made of (R11). -/
def pairRegs : RegPair → List Reg
  | .BC => [.B, .C] | .DE => [.D, .E] | .HL => [.H, .L] | .SP => []

/-- An opcode byte as a number. -/
def opc (n : Nat) : Byte := BitVec.ofNat 8 n

/-- The low half of a Word (R7, R58). -/
def low (w : Word) : Byte := BitVec.ofNat 8 (w.toNat % 256)

/-- The high half of a Word (R7, R58). -/
def high (w : Word) : Byte := BitVec.ofNat 8 (w.toNat / 256)

/-- `hi:lo` as a Word (R7). -/
def word (hi lo : Byte) : Word := BitVec.ofNat 16 (hi.toNat * 256 + lo.toNat)

/-- `F.Z`, `F.S`, `F.P` are those of `v` (R14, R90). -/
structure ZspOf (f : Flags) (v : Byte) : Prop where
  zero : f.z = true ↔ v = 0
  sign : f.s = true ↔ 128 ≤ v.toNat
  parity : f.p = true ↔ ((List.range 8).filter fun k => v.getLsbD k).length % 2 = 0

/-- An instruction of the bytes `bs` that falls through and leaves `sp` alone: `pc` moves past its bytes;
the rest is the frame. -/
structure FallsThrough (s t : State) (bs : List Byte) (regs : List Reg) (stored : List Word) : Prop
    extends Frame s t regs stored where
  pc : t.pc = s.pc + BitVec.ofNat 16 bs.length
  sp : t.sp = s.sp

/-- The move that comes next is the engine's (R6). -/
def EngineTurn (s : State) : Prop := s.env.turns = [] ∨ ∃ ts, s.env.turns = .engine :: ts

/-- The forms of ADD and ADC: bytes, second operand, incoming carry (R93 to R98). -/
inductive AddForm (s : State) : Instr → List Byte → Byte → Bool → Prop where
  | addR (r : Reg) : AddForm s (.addR r) [opc (0x80 + regCode r)] (s.reg r) false
  | addM : AddForm s .addM [0x86] (s.readByte (s.pair .HL)) false
  | adi (d8 : Byte) : AddForm s (.adi d8) [0xC6, d8] d8 false
  | adcR (r : Reg) : AddForm s (.adcR r) [opc (0x88 + regCode r)] (s.reg r) s.flags.cy
  | adcM : AddForm s .adcM [0x8E] (s.readByte (s.pair .HL)) s.flags.cy
  | aci (d8 : Byte) : AddForm s (.aci d8) [0xCE, d8] d8 s.flags.cy

/-- The forms of SUB and SBB: bytes, second operand, incoming borrow (R99 to R104). -/
inductive SubForm (s : State) : Instr → List Byte → Byte → Bool → Prop where
  | subR (r : Reg) : SubForm s (.subR r) [opc (0x90 + regCode r)] (s.reg r) false
  | subM : SubForm s .subM [0x96] (s.readByte (s.pair .HL)) false
  | sui (d8 : Byte) : SubForm s (.sui d8) [0xD6, d8] d8 false
  | sbbR (r : Reg) : SubForm s (.sbbR r) [opc (0x98 + regCode r)] (s.reg r) s.flags.cy
  | sbbM : SubForm s .sbbM [0x9E] (s.readByte (s.pair .HL)) s.flags.cy
  | sbi (d8 : Byte) : SubForm s (.sbi d8) [0xDE, d8] d8 s.flags.cy

/-- The forms of ANA, XRA and ORA: bytes and result, bit by bit (R131 to R139). -/
inductive LogicForm (s : State) : Instr → List Byte → Byte → (Bool → Bool → Bool) → Prop where
  | anaR (r : Reg) : LogicForm s (.anaR r) [opc (0xA0 + regCode r)] (s.reg r) (· && ·)
  | anaM : LogicForm s .anaM [0xA6] (s.readByte (s.pair .HL)) (· && ·)
  | ani (d8 : Byte) : LogicForm s (.ani d8) [0xE6, d8] d8 (· && ·)
  | xraR (r : Reg) : LogicForm s (.xraR r) [opc (0xA8 + regCode r)] (s.reg r) (· != ·)
  | xraM : LogicForm s .xraM [0xAE] (s.readByte (s.pair .HL)) (· != ·)
  | xri (d8 : Byte) : LogicForm s (.xri d8) [0xEE, d8] d8 (· != ·)
  | oraR (r : Reg) : LogicForm s (.oraR r) [opc (0xB0 + regCode r)] (s.reg r) (· || ·)
  | oraM : LogicForm s .oraM [0xB6] (s.readByte (s.pair .HL)) (· || ·)
  | ori (d8 : Byte) : LogicForm s (.ori d8) [0xF6, d8] d8 (· || ·)

/-- The forms of CMP: bytes and second operand (R140 to R142). -/
inductive CompareForm (s : State) : Instr → List Byte → Byte → Prop where
  | cmpR (r : Reg) : CompareForm s (.cmpR r) [opc (0xB8 + regCode r)] (s.reg r)
  | cmpM : CompareForm s .cmpM [0xBE] (s.readByte (s.pair .HL))
  | cpi (d8 : Byte) : CompareForm s (.cpi d8) [0xFE, d8] d8

/-- The jumps: opcode, target, condition (R161 to R169). -/
inductive JumpForm (f : Flags) : Instr → Byte → Word → Prop → Prop where
  | jmp (w : Word) : JumpForm f (.jmp w) 0xC3 w True
  | jmpAlt (w : Word) : JumpForm f (.jmpAlt w) 0xCB w True
  | jnz (w : Word) : JumpForm f (.jnz w) 0xC2 w (f.z = false)
  | jz (w : Word) : JumpForm f (.jz w) 0xCA w (f.z = true)
  | jnc (w : Word) : JumpForm f (.jnc w) 0xD2 w (f.cy = false)
  | jc (w : Word) : JumpForm f (.jc w) 0xDA w (f.cy = true)
  | jpo (w : Word) : JumpForm f (.jpo w) 0xE2 w (f.p = false)
  | jpe (w : Word) : JumpForm f (.jpe w) 0xEA w (f.p = true)
  | jp (w : Word) : JumpForm f (.jp w) 0xF2 w (f.s = false)
  | jm (w : Word) : JumpForm f (.jm w) 0xFA w (f.s = true)

/-- The calls: opcode, target, condition (R170 to R178). -/
inductive CallForm (f : Flags) : Instr → Byte → Word → Prop → Prop where
  | call (w : Word) : CallForm f (.call w) 0xCD w True
  | cnz (w : Word) : CallForm f (.cnz w) 0xC4 w (f.z = false)
  | cz (w : Word) : CallForm f (.cz w) 0xCC w (f.z = true)
  | cnc (w : Word) : CallForm f (.cnc w) 0xD4 w (f.cy = false)
  | cc (w : Word) : CallForm f (.cc w) 0xDC w (f.cy = true)
  | cpo (w : Word) : CallForm f (.cpo w) 0xE4 w (f.p = false)
  | cpe (w : Word) : CallForm f (.cpe w) 0xEC w (f.p = true)
  | cp (w : Word) : CallForm f (.cp w) 0xF4 w (f.s = false)
  | cm (w : Word) : CallForm f (.cm w) 0xFC w (f.s = true)

/-- The returns: opcode and condition (R179 to R187). -/
inductive ReturnForm (f : Flags) : Instr → Byte → Prop → Prop where
  | ret : ReturnForm f .ret 0xC9 True
  | rnz : ReturnForm f .rnz 0xC0 (f.z = false)
  | rz : ReturnForm f .rz 0xC8 (f.z = true)
  | rnc : ReturnForm f .rnc 0xD0 (f.cy = false)
  | rc : ReturnForm f .rc 0xD8 (f.cy = true)
  | rpo : ReturnForm f .rpo 0xE0 (f.p = false)
  | rpe : ReturnForm f .rpe 0xE8 (f.p = true)
  | rp : ReturnForm f .rp 0xF0 (f.s = false)
  | rm : ReturnForm f .rm 0xF8 (f.s = true)

/-- The forms of INR and DCR on a register: opcode, register, amount added, AC of the old value (R108, R110). -/
inductive CountRegForm : Instr → Byte → Reg → Int → (Byte → Prop) → Prop where
  | inr (r : Reg) : CountRegForm (.inrR r) (opc (0x04 + 8 * regCode r)) r 1 (fun v => v.toNat % 16 = 15)
  | dcr (r : Reg) : CountRegForm (.dcrR r) (opc (0x05 + 8 * regCode r)) r (-1) (fun v => v.toNat % 16 ≠ 0)

/-- The forms of INR and DCR on memory: opcode, amount added, AC of the old value (R109, R111). -/
inductive CountMemForm : Instr → Byte → Int → (Byte → Prop) → Prop where
  | inr : CountMemForm .inrM 0x34 1 (fun v => v.toNat % 16 = 15)
  | dcr : CountMemForm .dcrM 0x35 (-1) (fun v => v.toNat % 16 ≠ 0)

/-- Length by opcode value (R51): the F2 opcodes MVI, the immediate operations, IN and OUT; the F3
opcodes LXI, SHLD, LHLD, STA, LDA, the jumps and the calls; every other is F1. -/
def lengthOf (op : Byte) : Nat :=
  if op ∈ [0x06#8, 0x0E#8, 0x16#8, 0x1E#8, 0x26#8, 0x2E#8, 0x36#8, 0x3E#8,
      0xC6#8, 0xCE#8, 0xD6#8, 0xDE#8, 0xE6#8, 0xEE#8, 0xF6#8, 0xFE#8, 0xDB#8, 0xD3#8] then 2
  else if op ∈ [0x01#8, 0x11#8, 0x21#8, 0x31#8, 0x22#8, 0x2A#8, 0x32#8, 0x3A#8, 0xC3#8, 0xCB#8,
      0xC2#8, 0xCA#8, 0xD2#8, 0xDA#8, 0xE2#8, 0xEA#8, 0xF2#8, 0xFA#8, 0xCD#8,
      0xC4#8, 0xCC#8, 0xD4#8, 0xDC#8, 0xE4#8, 0xEC#8, 0xF4#8, 0xFC#8] then 3
  else 1

/-- The five flags by name (R17). -/
inductive FlagName where
  | S | Z | AC | P | CY
deriving DecidableEq, Repr

/-- The flag of that name. -/
def flag (f : Flags) : FlagName → Bool
  | .S => f.s | .Z => f.z | .AC => f.ac | .P => f.p | .CY => f.cy

/-- The condition a conditional transfer tests (R57). -/
def condOf : Instr → Option Cond
  | .jnz _ | .cnz _ | .rnz => some .nz
  | .jz _ | .cz _ | .rz => some .z
  | .jnc _ | .cnc _ | .rnc => some .nc
  | .jc _ | .cc _ | .rc => some .c
  | .jpo _ | .cpo _ | .rpo => some .po
  | .jpe _ | .cpe _ | .rpe => some .pe
  | .jp _ | .cp _ | .rp => some .p
  | .jm _ | .cm _ | .rm => some .m
  | .movRR _ _ | .movRM _ | .movMR _ | .mviR _ _ | .mviM _ | .lxi _ _ | .lda _ | .sta _ | .lhld _
  | .shld _ | .ldax _ | .stax _ | .xchg | .addR _ | .addM | .adi _ | .adcR _ | .adcM | .aci _
  | .subR _ | .subM | .sui _ | .sbbR _ | .sbbM | .sbi _ | .inrR _ | .inrM | .dcrR _ | .dcrM | .inx _
  | .dcx _ | .dad _ | .daa | .anaR _ | .anaM | .ani _ | .xraR _ | .xraM | .xri _ | .oraR _ | .oraM
  | .ori _ | .cmpR _ | .cmpM | .cpi _ | .rlc | .rrc | .ral | .rar | .cma | .stc | .cmc | .jmp _
  | .jmpAlt _ | .call _ | .ret | .rst _ | .pchl | .push _ | .pushPsw | .pop _ | .popPsw | .xthl
  | .sphl | .inPort _ | .outPort _ | .ei | .di | .hlt | .nop | .nopSyn _ | .unimpl _ => none

/-- Column "R" of R17's table. -/
def reads (i : Instr) (n : FlagName) : Bool :=
  match i with
  | .adcR _ | .adcM | .aci _ | .sbbR _ | .sbbM | .sbi _ | .ral | .rar | .cmc => n == .CY
  | .daa => n == .AC || n == .CY
  | .pushPsw => true
  | .jnz _ | .cnz _ | .rnz | .jz _ | .cz _ | .rz => n == .Z
  | .jnc _ | .cnc _ | .rnc | .jc _ | .cc _ | .rc => n == .CY
  | .jpo _ | .cpo _ | .rpo | .jpe _ | .cpe _ | .rpe => n == .P
  | .jp _ | .cp _ | .rp | .jm _ | .cm _ | .rm => n == .S
  | .movRR _ _ | .movRM _ | .movMR _ | .mviR _ _ | .mviM _ | .lxi _ _ | .lda _ | .sta _ | .lhld _
  | .shld _ | .ldax _ | .stax _ | .xchg | .addR _ | .addM | .adi _ | .subR _ | .subM | .sui _
  | .inrR _ | .inrM | .dcrR _ | .dcrM | .inx _ | .dcx _ | .dad _ | .anaR _ | .anaM | .ani _
  | .xraR _ | .xraM | .xri _ | .oraR _ | .oraM | .ori _ | .cmpR _ | .cmpM | .cpi _ | .rlc | .rrc
  | .cma | .stc | .jmp _ | .jmpAlt _ | .call _ | .ret | .rst _ | .pchl | .push _ | .pop _ | .popPsw
  | .xthl | .sphl | .inPort _ | .outPort _ | .ei | .di | .hlt | .nop | .nopSyn _ | .unimpl _ =>
    false

/-- Columns "W", "0" and "1" of R17's table. -/
def writes (i : Instr) (n : FlagName) : Bool :=
  match i with
  | .addR _ | .addM | .adi _ | .adcR _ | .adcM | .aci _ | .subR _ | .subM | .sui _ | .sbbR _ | .sbbM
  | .sbi _ | .cmpR _ | .cmpM | .cpi _ | .daa | .popPsw => true
  | .anaR _ | .anaM | .ani _ | .xraR _ | .xraM | .xri _ | .oraR _ | .oraM | .ori _ => n != .AC
  | .inrR _ | .inrM | .dcrR _ | .dcrM => n != .CY
  | .dad _ | .rlc | .rrc | .ral | .rar | .stc | .cmc => n == .CY
  | .movRR _ _ | .movRM _ | .movMR _ | .mviR _ _ | .mviM _ | .lxi _ _ | .lda _ | .sta _ | .lhld _
  | .shld _ | .ldax _ | .stax _ | .xchg | .inx _ | .dcx _ | .cma | .jmp _ | .jmpAlt _ | .jnz _
  | .jz _ | .jnc _ | .jc _ | .jpo _ | .jpe _ | .jp _ | .jm _ | .call _ | .cnz _ | .cz _ | .cnc _
  | .cc _ | .cpo _ | .cpe _ | .cp _ | .cm _ | .ret | .rnz | .rz | .rnc | .rc | .rpo | .rpe | .rp
  | .rm | .rst _ | .pchl | .push _ | .pushPsw | .pop _ | .xthl | .sphl | .inPort _ | .outPort _
  | .ei | .di | .hlt | .nop | .nopSyn _ | .unimpl _ => false

/-- Entries "0" and "1" of R17's table. -/
def forced (i : Instr) (n : FlagName) : Option Bool :=
  match i with
  | .anaR _ | .anaM | .ani _ | .xraR _ | .xraM | .xri _ | .oraR _ | .oraM | .ori _ =>
    if n = .CY then some false else none
  | .stc => if n = .CY then some true else none
  | .movRR _ _ | .movRM _ | .movMR _ | .mviR _ _ | .mviM _ | .lxi _ _ | .lda _ | .sta _ | .lhld _
  | .shld _ | .ldax _ | .stax _ | .xchg | .addR _ | .addM | .adi _ | .adcR _ | .adcM | .aci _
  | .subR _ | .subM | .sui _ | .sbbR _ | .sbbM | .sbi _ | .inrR _ | .inrM | .dcrR _ | .dcrM | .inx _
  | .dcx _ | .dad _ | .daa | .cmpR _ | .cmpM | .cpi _ | .rlc | .rrc | .ral | .rar | .cma | .cmc
  | .jmp _ | .jmpAlt _ | .jnz _ | .jz _ | .jnc _ | .jc _ | .jpo _ | .jpe _ | .jp _ | .jm _ | .call _
  | .cnz _ | .cz _ | .cnc _ | .cc _ | .cpo _ | .cpe _ | .cp _ | .cm _ | .ret | .rnz | .rz | .rnc
  | .rc | .rpo | .rpe | .rp | .rm | .rst _ | .pchl | .push _ | .pushPsw | .pop _ | .popPsw | .xthl
  | .sphl | .inPort _ | .outPort _ | .ei | .di | .hlt | .nop | .nopSyn _ | .unimpl _ => none

/-- Whether a conditional transfer is taken; an unconditional one always is (R160). -/
def taken (i : Instr) (f : Flags) : Bool :=
  match condOf i with
  | none => true
  | some .nz => f.z == false
  | some .z => f.z == true
  | some .nc => f.cy == false
  | some .c => f.cy == true
  | some .po => f.p == false
  | some .pe => f.p == true
  | some .p => f.s == false
  | some .m => f.s == true

/-- `pc` when the step ends (R12): the address of the next instruction, or for a taken jump, call or
restart the target, for a return the popped Word, for PCHL `H:L`. -/
def pcAfter (i : Instr) (s : State) : Word :=
  let next := s.pc + BitVec.ofNat 16 i.length
  match i with
  | .jmp w | .jmpAlt w | .jnz w | .jz w | .jnc w | .jc w | .jpo w | .jpe w | .jp w | .jm w
  | .call w | .cnz w | .cz w | .cnc w | .cc w | .cpo w | .cpe w | .cp w | .cm w =>
    if taken i s.flags then w else next
  | .ret | .rnz | .rz | .rnc | .rc | .rpo | .rpe | .rp | .rm =>
    if taken i s.flags then word (s.readByte (s.sp + 1)) (s.readByte s.sp) else next
  | .rst n => BitVec.ofNat 16 (8 * n.toNat)
  | .pchl => word s.h s.l
  | .movRR _ _ | .movRM _ | .movMR _ | .mviR _ _ | .mviM _ | .lxi _ _ | .lda _ | .sta _ | .lhld _
  | .shld _ | .ldax _ | .stax _ | .xchg | .addR _ | .addM | .adi _ | .adcR _ | .adcM | .aci _
  | .subR _ | .subM | .sui _ | .sbbR _ | .sbbM | .sbi _ | .inrR _ | .inrM | .dcrR _ | .dcrM | .inx _
  | .dcx _ | .dad _ | .daa | .anaR _ | .anaM | .ani _ | .xraR _ | .xraM | .xri _ | .oraR _ | .oraM
  | .ori _ | .cmpR _ | .cmpM | .cpi _ | .rlc | .rrc | .ral | .rar | .cma | .stc | .cmc | .push _
  | .pushPsw | .pop _ | .popPsw | .xthl | .sphl | .inPort _ | .outPort _ | .ei | .di | .hlt | .nop
  | .nopSyn _ | .unimpl _ => next

/-- `sp` when the step ends (R13): moved by Push and Pop, written as the fourth pair of LXI, INX and DCX,
and by SPHL; otherwise as it was. -/
def spAfter (i : Instr) (s : State) : Word :=
  match i with
  | .push _ | .pushPsw | .rst _ => s.sp - 2
  | .call _ | .cnz _ | .cz _ | .cnc _ | .cc _ | .cpo _ | .cpe _ | .cp _ | .cm _ =>
    if taken i s.flags then s.sp - 2 else s.sp
  | .ret | .rnz | .rz | .rnc | .rc | .rpo | .rpe | .rp | .rm =>
    if taken i s.flags then s.sp + 2 else s.sp
  | .pop _ | .popPsw => s.sp + 2
  | .lxi rp d16 => if rp = .SP then d16 else s.sp
  | .inx rp => if rp = .SP then s.sp + 1 else s.sp
  | .dcx rp => if rp = .SP then s.sp - 1 else s.sp
  | .sphl => word s.h s.l
  | .movRR _ _ | .movRM _ | .movMR _ | .mviR _ _ | .mviM _ | .lda _ | .sta _ | .lhld _ | .shld _
  | .ldax _ | .stax _ | .xchg | .addR _ | .addM | .adi _ | .adcR _ | .adcM | .aci _ | .subR _
  | .subM | .sui _ | .sbbR _ | .sbbM | .sbi _ | .inrR _ | .inrM | .dcrR _ | .dcrM | .dad _ | .daa
  | .anaR _ | .anaM | .ani _ | .xraR _ | .xraM | .xri _ | .oraR _ | .oraM | .ori _ | .cmpR _ | .cmpM
  | .cpi _ | .rlc | .rrc | .ral | .rar | .cma | .stc | .cmc | .jmp _ | .jmpAlt _ | .jnz _ | .jz _
  | .jnc _ | .jc _ | .jpo _ | .jpe _ | .jp _ | .jm _ | .pchl | .xthl | .inPort _ | .outPort _ | .ei
  | .di | .hlt | .nop | .nopSyn _ | .unimpl _ => s.sp

/-- The addresses an instruction stores to (R33, column "data writes"). -/
def storedAt (i : Instr) (s : State) : List Word :=
  match i with
  | .movMR _ | .mviM _ | .inrM | .dcrM => [s.pair .HL]
  | .sta w => [w]
  | .stax rp => [s.pair rp]
  | .shld w => [w, w + 1]
  | .push _ | .pushPsw | .rst _ => [s.sp - 1, s.sp - 2]
  | .call _ | .cnz _ | .cz _ | .cnc _ | .cc _ | .cpo _ | .cpe _ | .cp _ | .cm _ =>
    if taken i s.flags then [s.sp - 1, s.sp - 2] else []
  | .xthl => [s.sp, s.sp + 1]
  | .movRR _ _ | .movRM _ | .mviR _ _ | .lxi _ _ | .lda _ | .lhld _ | .ldax _ | .xchg | .addR _
  | .addM | .adi _ | .adcR _ | .adcM | .aci _ | .subR _ | .subM | .sui _ | .sbbR _ | .sbbM | .sbi _
  | .inrR _ | .dcrR _ | .inx _ | .dcx _ | .dad _ | .daa | .anaR _ | .anaM | .ani _ | .xraR _ | .xraM
  | .xri _ | .oraR _ | .oraM | .ori _ | .cmpR _ | .cmpM | .cpi _ | .rlc | .rrc | .ral | .rar | .cma
  | .stc | .cmc | .jmp _ | .jmpAlt _ | .jnz _ | .jz _ | .jnc _ | .jc _ | .jpo _ | .jpe _ | .jp _
  | .jm _ | .ret | .rnz | .rz | .rnc | .rc | .rpo | .rpe | .rp | .rm | .pchl | .pop _ | .popPsw
  | .sphl | .inPort _ | .outPort _ | .ei | .di | .hlt | .nop | .nopSyn _ | .unimpl _ => []

/-- The bytes an instruction stores, in the order of `storedAt` (R33, each rule's pseudocode; R38 for the
stack: high byte first). -/
def storedValues (i : Instr) (s : State) : List Byte :=
  match i with
  | .movMR r => [s.reg r]
  | .mviM d8 => [d8]
  | .inrM => [s.readByte (s.pair .HL) + 1]
  | .dcrM => [s.readByte (s.pair .HL) - 1]
  | .sta _ | .stax _ => [s.a]
  | .shld _ | .xthl => [s.l, s.h]
  | .push rp => [high (s.pair rp), low (s.pair rp)]
  | .pushPsw => [s.a, s.flags.toPsw]
  | .rst _ => [high (s.pc + 1), low (s.pc + 1)]
  | .call _ | .cnz _ | .cz _ | .cnc _ | .cc _ | .cpo _ | .cpe _ | .cp _ | .cm _ =>
    [high (s.pc + 3), low (s.pc + 3)]
  | .movRR _ _ | .movRM _ | .mviR _ _ | .lxi _ _ | .lda _ | .lhld _ | .ldax _ | .xchg | .addR _
  | .addM | .adi _ | .adcR _ | .adcM | .aci _ | .subR _ | .subM | .sui _ | .sbbR _ | .sbbM | .sbi _
  | .inrR _ | .dcrR _ | .inx _ | .dcx _ | .dad _ | .daa | .anaR _ | .anaM | .ani _ | .xraR _ | .xraM
  | .xri _ | .oraR _ | .oraM | .ori _ | .cmpR _ | .cmpM | .cpi _ | .rlc | .rrc | .ral | .rar | .cma
  | .stc | .cmc | .jmp _ | .jmpAlt _ | .jnz _ | .jz _ | .jnc _ | .jc _ | .jpo _ | .jpe _ | .jp _
  | .jm _ | .ret | .rnz | .rz | .rnc | .rc | .rpo | .rpe | .rp | .rm | .pchl | .pop _ | .popPsw
  | .sphl | .inPort _ | .outPort _ | .ei | .di | .hlt | .nop | .nopSyn _ | .unimpl _ => []

/-- The byte at `a` when the step ends: the one the instruction stores there, else the one before. -/
def byteAfter (i : Instr) (s : State) (a : Word) : Byte :=
  (((storedAt i s).zip (storedValues i s)).lookup a).getD (s.readByte a)

/-- The registers an instruction writes (R70 to R229, each rule's operands). -/
def destRegs : Instr → List Reg
  | .movRR d _ | .movRM d | .mviR d _ | .inrR d | .dcrR d => [d]
  | .lxi rp _ | .inx rp | .dcx rp | .pop rp => pairRegs rp
  | .lhld _ | .dad _ | .xthl => [.H, .L]
  | .xchg => [.D, .E, .H, .L]
  | .lda _ | .ldax _ | .addR _ | .addM | .adi _ | .adcR _ | .adcM | .aci _ | .subR _ | .subM | .sui _
  | .sbbR _ | .sbbM | .sbi _ | .daa | .anaR _ | .anaM | .ani _ | .xraR _ | .xraM | .xri _ | .oraR _
  | .oraM | .ori _ | .rlc | .rrc | .ral | .rar | .cma | .popPsw | .inPort _ => [.A]
  | .movMR _ | .mviM _ | .sta _ | .shld _ | .stax _ | .inrM | .dcrM | .cmpR _ | .cmpM | .cpi _
  | .stc | .cmc | .jmp _ | .jmpAlt _ | .jnz _ | .jz _ | .jnc _ | .jc _ | .jpo _ | .jpe _ | .jp _
  | .jm _ | .call _ | .cnz _ | .cz _ | .cnc _ | .cc _ | .cpo _ | .cpe _ | .cp _ | .cm _ | .ret
  | .rnz | .rz | .rnc | .rc | .rpo | .rpe | .rp | .rm | .rst _ | .pchl | .push _ | .pushPsw | .sphl
  | .outPort _ | .ei | .di | .hlt | .nop | .nopSyn _ | .unimpl _ => []

/-- `s` with other values of the four status bits. -/
def withStatus (s : State) (inte halted unimpl stub : Bool) : State :=
  { s with inte := inte, halted := halted, unimpl := unimpl, stub := stub }

/-- The packed-decimal byte of a number below 100. -/
def bcd (n : Nat) : Byte := BitVec.ofNat 8 (n / 10 * 16 + n % 10)

end Sys2Proof.Claims

open Sys2Proof Sys2Proof.Machine Sys2Proof.Claims

/-! ### Encoding and the step -/

/-- For every well-formed instruction and any bytes after it, decoding its encoding followed by
those bytes gives that instruction, with every operand, and exactly those bytes. (R51, R55, R56, R57, R58, R59, R61.) -/
def Obligations.DecodeOfEncodeIsTheInstruction : Prop :=
  ∀ (i : Instr) (rest : List Byte), i.wf = true → decode (encode i ++ rest) = .ok (i, rest)

/-- If a byte sequence decodes to an instruction and a rest, then the instruction is well formed
and its encoding followed by the rest is that byte sequence: each of the 256 opcodes has exactly
one reading. (R51, R52, R59, R61.) -/
def Obligations.EncodeOfDecodeIsTheBytes : Prop :=
  ∀ (bs rest : List Byte) (i : Instr), decode bs = .ok (i, rest) → i.wf = true ∧ encode i ++ rest = bs

/-- For every opcode byte and any two bytes after it, decoding succeeds, the instruction has the
length R51 gives that opcode (F2 and F3 opcodes listed, F1 otherwise), exactly that many bytes are
taken, the first byte is the opcode, and the operand bytes past that length change nothing. (R51, R52.) -/
def Obligations.OpcodeAloneFixesTheLength : Prop :=
  ∀ (op b2 b3 : Byte) (rest : List Byte),
    ∃ i, decode (op :: b2 :: b3 :: rest) = .ok (i, (op :: b2 :: b3 :: rest).drop (lengthOf op)) ∧
      i.length = lengthOf op ∧ (encode i).head? = some op ∧
      (lengthOf op = 1 ∨ lengthOf op = 2 ∨ lengthOf op = 3) ∧
      ∀ c2 c3 : Byte, (2 ≤ lengthOf op → c2 = b2) → (lengthOf op = 3 → c3 = b3) →
        decode (op :: c2 :: c3 :: rest) = .ok (i, (op :: c2 :: c3 :: rest).drop (lengthOf op))

/-- At least one word of every row of the pattern table of rule R59, and of every instruction such
a row names (each of its operations and conditions, with a register and with M), written in binary,
decodes to the instruction it stands for, with its operand bytes. (30_encoding.md section 4.) -/
def Obligations.WrittenOutWordsDecode : Prop :=
  Encodes (.movRR .D .E) [0b01010011] ∧ Encodes (.movRM .C) [0b01001110] ∧
    Encodes (.movMR .L) [0b01110101] ∧ Encodes (.mviR .E 0x12) [0b00011110, 0x12] ∧
    Encodes (.mviM 0x34) [0b00110110, 0x34] ∧ Encodes (.lxi .DE 0x5678) [0b00010001, 0x78, 0x56] ∧
    Encodes (.lda 0x2000) [0b00111010, 0x00, 0x20] ∧
    Encodes (.sta 0x2050) [0b00110010, 0x50, 0x20] ∧
    Encodes (.lhld 0x3001) [0b00101010, 0x01, 0x30] ∧
    Encodes (.shld 0x3002) [0b00100010, 0x02, 0x30] ∧ Encodes (.ldax .BC) [0b00001010] ∧
    Encodes (.ldax .DE) [0b00011010] ∧ Encodes (.stax .BC) [0b00000010] ∧
    Encodes (.stax .DE) [0b00010010] ∧ Encodes .xchg [0b11101011] ∧
    Encodes (.addR .D) [0b10000010] ∧ Encodes .addM [0b10000110] ∧
    Encodes (.adi 0x42) [0b11000110, 0x42] ∧ Encodes (.adcR .C) [0b10001001] ∧
    Encodes .adcM [0b10001110] ∧ Encodes (.aci 0xBE) [0b11001110, 0xBE] ∧
    Encodes (.subR .B) [0b10010000] ∧ Encodes .subM [0b10010110] ∧
    Encodes (.sui 0x01) [0b11010110, 0x01] ∧ Encodes (.sbbR .L) [0b10011101] ∧
    Encodes .sbbM [0b10011110] ∧ Encodes (.sbi 0x01) [0b11011110, 0x01] ∧
    Encodes (.inrR .A) [0b00111100] ∧ Encodes .inrM [0b00110100] ∧ Encodes (.dcrR .H) [0b00100101] ∧
    Encodes .dcrM [0b00110101] ∧ Encodes (.inx .SP) [0b00110011] ∧ Encodes (.dcx .HL) [0b00101011] ∧
    Encodes (.dad .DE) [0b00011001] ∧ Encodes .daa [0b00100111] ∧ Encodes (.anaR .C) [0b10100001] ∧
    Encodes .anaM [0b10100110] ∧ Encodes (.ani 0x0F) [0b11100110, 0x0F] ∧
    Encodes (.xraR .A) [0b10101111] ∧ Encodes .xraM [0b10101110] ∧
    Encodes (.xri 0x81) [0b11101110, 0x81] ∧ Encodes (.oraR .H) [0b10110100] ∧
    Encodes .oraM [0b10110110] ∧ Encodes (.ori 0x0F) [0b11110110, 0x0F] ∧
    Encodes (.cmpR .E) [0b10111011] ∧ Encodes .cmpM [0b10111110] ∧
    Encodes (.cpi 0x40) [0b11111110, 0x40] ∧ Encodes .rlc [0b00000111] ∧ Encodes .rrc [0b00001111] ∧
    Encodes .ral [0b00010111] ∧ Encodes .rar [0b00011111] ∧ Encodes .cma [0b00101111] ∧
    Encodes .stc [0b00110111] ∧ Encodes .cmc [0b00111111] ∧
    Encodes (.jmp 0xABCD) [0b11000011, 0xCD, 0xAB] ∧
    Encodes (.jmpAlt 0xABCD) [0b11001011, 0xCD, 0xAB] ∧
    Encodes (.jnz 0xABCD) [0b11000010, 0xCD, 0xAB] ∧ Encodes (.jz 0xABCD) [0b11001010, 0xCD, 0xAB] ∧
    Encodes (.jnc 0xABCD) [0b11010010, 0xCD, 0xAB] ∧ Encodes (.jc 0xABCD) [0b11011010, 0xCD, 0xAB] ∧
    Encodes (.jpo 0xABCD) [0b11100010, 0xCD, 0xAB] ∧
    Encodes (.jpe 0xABCD) [0b11101010, 0xCD, 0xAB] ∧ Encodes (.jp 0xABCD) [0b11110010, 0xCD, 0xAB] ∧
    Encodes (.jm 0xABCD) [0b11111010, 0xCD, 0xAB] ∧
    Encodes (.call 0xABCD) [0b11001101, 0xCD, 0xAB] ∧
    Encodes (.cnz 0xABCD) [0b11000100, 0xCD, 0xAB] ∧ Encodes (.cz 0xABCD) [0b11001100, 0xCD, 0xAB] ∧
    Encodes (.cnc 0xABCD) [0b11010100, 0xCD, 0xAB] ∧ Encodes (.cc 0xABCD) [0b11011100, 0xCD, 0xAB] ∧
    Encodes (.cpo 0xABCD) [0b11100100, 0xCD, 0xAB] ∧
    Encodes (.cpe 0xABCD) [0b11101100, 0xCD, 0xAB] ∧ Encodes (.cp 0xABCD) [0b11110100, 0xCD, 0xAB] ∧
    Encodes (.cm 0xABCD) [0b11111100, 0xCD, 0xAB] ∧ Encodes .ret [0b11001001] ∧
    Encodes .rnz [0b11000000] ∧ Encodes .rz [0b11001000] ∧ Encodes .rnc [0b11010000] ∧
    Encodes .rc [0b11011000] ∧ Encodes .rpo [0b11100000] ∧ Encodes .rpe [0b11101000] ∧
    Encodes .rp [0b11110000] ∧ Encodes .rm [0b11111000] ∧ Encodes (.rst 3) [0b11011111] ∧
    Encodes .pchl [0b11101001] ∧ Encodes (.push .DE) [0b11010101] ∧ Encodes .pushPsw [0b11110101] ∧
    Encodes (.pop .HL) [0b11100001] ∧ Encodes .popPsw [0b11110001] ∧ Encodes .xthl [0b11100011] ∧
    Encodes .sphl [0b11111001] ∧ Encodes (.inPort 0x10) [0b11011011, 0x10] ∧
    Encodes (.outPort 0x21) [0b11010011, 0x21] ∧ Encodes .ei [0b11111011] ∧
    Encodes .di [0b11110011] ∧ Encodes .hlt [0b01110110] ∧ Encodes .nop [0b00000000] ∧
    Encodes (.nopSyn 5) [0b00101000] ∧ Encodes (.unimpl .xD9) [0b11011001] ∧
    Encodes (.unimpl .xDD) [0b11011101] ∧ Encodes (.unimpl .xED) [0b11101101] ∧
    Encodes (.unimpl .xFD) [0b11111101]

/-- If the three bytes at pc, pc+1 and pc+2 decode to an instruction, then with no turn listed the
step is exec of that instruction at that state, and with the engine's turn at the head of the list
it is exec at the state with that turn taken off. (env.turns is the model's own field, log 6.) (30_encoding.md section 1, 00_scope.md section 5.) -/
def Obligations.StepRunsTheDecodedInstruction : Prop :=
  ∀ (s : State) (i : Instr) (rest : List Byte),
    decode [s.readByte s.pc, s.readByte (s.pc + 1), s.readByte (s.pc + 2)] = .ok (i, rest) →
      (s.env.turns = [] → step s = exec i s) ∧
        ∀ ts, s.env.turns = .engine :: ts → step s = exec i (s.withTurns ts)

/-- For every instruction and state exec answers a next state whose pc is the address of the next
instruction (pc plus the length, modulo 65536), or for a taken jump, call or restart the target,
for a taken return the Word at sp, for PCHL H:L. (R12, R160.) -/
def Obligations.EveryInstructionEndsAtTheRulesPc : Prop :=
  ∀ (i : Instr) (s : State), ∃ t, exec i s = .next t ∧ t.pc = pcAfter i s

/-- For every well-formed instruction and state exec answers a next state whose sp has moved by -2
for a push, a taken call or a restart, by +2 for a pop or a taken return, is the value LXI SP, INX
SP, DCX SP or SPHL writes, and is otherwise unchanged. (R13, R38, R39.) -/
def Obligations.EveryInstructionMovesSpAsTheRulesSay : Prop :=
  ∀ (i : Instr) (s : State), i.wf = true → ∃ t, exec i s = .next t ∧ t.sp = spAfter i s

/-- When an instruction answers a next state, every register but its destination registers and
every byte of memory but those at the addresses its rule stores to are unchanged; the addresses are
computed from the state before it (H:L, the operand address, or the stack slots). (R33, 20_memory.md section 4, 40_data_transfer.md R70 to R82, 41_arithmetic.md R93 to R115, 42_logical_rotate.md R131 to R149, 43_control_flow.md R161 to R189, 44_stack_io_machine.md R210 to R228.) -/
def Obligations.StoresAndRegistersOnlyWhereTheRulesSay : Prop :=
  ∀ (i : Instr) (s t : State), exec i s = .next t →
    (∀ r, r ∉ destRegs i → t.reg r = s.reg r) ∧ ∀ a, a ∉ storedAt i s → t.readByte a = s.readByte a

/-- From every state the step answers a next state, whether the move is the engine's or the
environment's: there is no fault, no refusal and no state in which the machine is stuck. ("`Step`
always completes and `DeliverInterrupt` always completes.") (R240, R50.) -/
def Obligations.MachineAlwaysMoves : Prop :=
  ∀ s : State, ∃ t, step s = .next t

/-! ### Data transfer -/

/-- MOV r1,r2 gives the destination the source's value; MOV r,M gives it the byte at the old H:L;
MOV M,r stores the register at H:L. Each falls through by one byte and changes no flag, no other
register and no other byte of memory. Opcodes: 01 ddd sss. (R70, R71, R72.) -/
def Obligations.MovCopiesARegisterOrTheCellAtHL : Prop :=
  (∀ (s : State) (d r : Reg), Encodes (.movRR d r) [opc (0x40 + 8 * regCode d + regCode r)] ∧
    ∃ t, exec (.movRR d r) s = .next t ∧ t.reg d = s.reg r ∧ t.flags = s.flags ∧
      FallsThrough s t [opc (0x40 + 8 * regCode d + regCode r)] [d] []) ∧
  (∀ (s : State) (d : Reg), Encodes (.movRM d) [opc (0x46 + 8 * regCode d)] ∧
    ∃ t, exec (.movRM d) s = .next t ∧ t.reg d = s.readByte (s.pair .HL) ∧ t.flags = s.flags ∧
      FallsThrough s t [opc (0x46 + 8 * regCode d)] [d] []) ∧
  (∀ (s : State) (r : Reg), Encodes (.movMR r) [opc (0x70 + regCode r)] ∧
    ∃ t, exec (.movMR r) s = .next t ∧ t.readByte (s.pair .HL) = s.reg r ∧ t.flags = s.flags ∧
      FallsThrough s t [opc (0x70 + regCode r)] [] [s.pair .HL])

/-- MVI r,d8 gives the register byte 2; MVI M,d8 stores byte 2 at H:L. Each falls through by two
bytes and changes no flag and nothing else. Opcodes: 00 ddd 110. (R73, R74.) -/
def Obligations.MviWritesTheImmediate : Prop :=
  (∀ (s : State) (d : Reg) (d8 : Byte), Encodes (.mviR d d8) [opc (0x06 + 8 * regCode d), d8] ∧
    ∃ t, exec (.mviR d d8) s = .next t ∧ t.reg d = d8 ∧ t.flags = s.flags ∧
      FallsThrough s t [opc (0x06 + 8 * regCode d), d8] [d] []) ∧
  (∀ (s : State) (d8 : Byte), Encodes (.mviM d8) [0x36, d8] ∧
    ∃ t, exec (.mviM d8) s = .next t ∧ t.readByte (s.pair .HL) = d8 ∧ t.flags = s.flags ∧
      FallsThrough s t [0x36, d8] [] [s.pair .HL])

/-- For every pair, LXI rp,d16 of bytes opcode, b2, b3 gives the low register b2 and the high
register b3 (for SP, sp = b3:b2); it falls through by three bytes and changes no flag and nothing
else. (R75.) -/
def Obligations.LxiWritesThePair : Prop :=
  ∀ (s : State) (rp : RegPair) (b2 b3 : Byte),
    Encodes (.lxi rp (word b3 b2)) [opc (0x01 + 16 * pairCode rp), b2, b3] ∧
    ∃ t, exec (.lxi rp (word b3 b2)) s = .next t ∧
      (rp = .BC → t.b = b3 ∧ t.c = b2) ∧ (rp = .DE → t.d = b3 ∧ t.e = b2) ∧
      (rp = .HL → t.h = b3 ∧ t.l = b2) ∧ t.sp = (if rp = .SP then word b3 b2 else s.sp) ∧
      t.flags = s.flags ∧ t.pc = s.pc + 3 ∧ Frame s t (pairRegs rp) []

/-- LDA a16 gives A the byte at a16 and STA a16 stores A there, falling through by three bytes;
LDAX B, LDAX D, STAX B and STAX D do the same at B:C or D:E, falling through by one. No flag, no
other register and no other byte of memory changes. (R76, R77, R80, R81.) -/
def Obligations.DirectAndIndirectMovesOfA : Prop :=
  (∀ (s : State) (a16 : Word), Encodes (.lda a16) [0x3A, low a16, high a16] ∧
    ∃ t, exec (.lda a16) s = .next t ∧ t.a = s.readByte a16 ∧ t.flags = s.flags ∧
      FallsThrough s t [0x3A, low a16, high a16] [.A] []) ∧
  (∀ (s : State) (a16 : Word), Encodes (.sta a16) [0x32, low a16, high a16] ∧
    ∃ t, exec (.sta a16) s = .next t ∧ t.readByte a16 = s.a ∧ t.flags = s.flags ∧
      FallsThrough s t [0x32, low a16, high a16] [] [a16]) ∧
  (∀ (s : State) (rp : RegPair), (Instr.ldax rp).wf = true →
    Encodes (.ldax rp) [opc (0x0A + 16 * pairCode rp)] ∧
    ∃ t, exec (.ldax rp) s = .next t ∧ t.a = s.readByte (s.pair rp) ∧ t.flags = s.flags ∧
      FallsThrough s t [opc (0x0A + 16 * pairCode rp)] [.A] []) ∧
  (∀ (s : State) (rp : RegPair), (Instr.stax rp).wf = true →
    Encodes (.stax rp) [opc (0x02 + 16 * pairCode rp)] ∧
    ∃ t, exec (.stax rp) s = .next t ∧ t.readByte (s.pair rp) = s.a ∧ t.flags = s.flags ∧
      FallsThrough s t [opc (0x02 + 16 * pairCode rp)] [] [s.pair rp])

/-- LHLD a16 gives L the byte at a16 and H the byte at a16 + 1 modulo 65536; SHLD a16 stores L at
a16 and H at a16 + 1 modulo 65536. Each falls through by three bytes; no flag and nothing else
changes. (R78, R79.) -/
def Obligations.LhldAndShldMoveHL : Prop :=
  (∀ (s : State) (a16 : Word), Encodes (.lhld a16) [0x2A, low a16, high a16] ∧
    ∃ t, exec (.lhld a16) s = .next t ∧ t.l = s.readByte a16 ∧ t.h = s.readByte (a16 + 1) ∧
      t.flags = s.flags ∧ FallsThrough s t [0x2A, low a16, high a16] [.H, .L] []) ∧
  (∀ (s : State) (a16 : Word), Encodes (.shld a16) [0x22, low a16, high a16] ∧
    ∃ t, exec (.shld a16) s = .next t ∧ t.readByte a16 = s.l ∧ t.readByte (a16 + 1) = s.h ∧
      t.flags = s.flags ∧ FallsThrough s t [0x22, low a16, high a16] [] [a16, a16 + 1])

/-- XCHG exchanges H with D and L with E, all four values taken before the instruction; it falls
through by one byte, no flag and nothing else changes, and a second XCHG restores the four
registers. (R82.) -/
def Obligations.XchgSwapsHLAndDE : Prop :=
  ∀ s : State, Encodes .xchg [0xEB] ∧
    ∃ t, exec .xchg s = .next t ∧ t.h = s.d ∧ t.d = s.h ∧ t.l = s.e ∧ t.e = s.l ∧ t.flags = s.flags ∧
      FallsThrough s t [0xEB] [.D, .E, .H, .L] [] ∧
      ∃ u, exec .xchg t = .next u ∧ ∀ r, u.reg r = s.reg r

/-- The Word value of a pair is its first-named register times 256 plus its second; writing a Word
writes its high half to the first-named and its low half to the second register; the fourth pair is
sp; writing a pair leaves every register outside it unchanged. (R11, R56.) -/
def Obligations.RegisterPairsAreTheirTwoRegisters : Prop :=
  ∀ (s : State) (w : Word),
    (s.pair .BC).toNat = s.b.toNat * 256 + s.c.toNat ∧ (s.pair .DE).toNat = s.d.toNat * 256 + s.e.toNat ∧
    (s.pair .HL).toNat = s.h.toNat * 256 + s.l.toNat ∧ s.pair .SP = s.sp ∧
    (s.setPair .BC w).b = high w ∧ (s.setPair .BC w).c = low w ∧ (s.setPair .DE w).d = high w ∧
    (s.setPair .DE w).e = low w ∧ (s.setPair .HL w).h = high w ∧ (s.setPair .HL w).l = low w ∧
    (s.setPair .SP w).sp = w ∧ ∀ rp r, r ∉ pairRegs rp → (s.setPair rp w).reg r = s.reg r

/-! ### Arithmetic -/

/-- Every form of ADD and ADC gives A the sum of A, the operand and the incoming carry (0 for ADD,
F.CY for ADC) modulo 256; CY is 1 iff the exact sum exceeds 0xFF, AC iff the sum of the low nibbles
and the carry exceeds 0xF, and Z, S, P are those of the result. It falls through; nothing else
changes. The rules carry the decisions D2 (true carry out of bit 3) and D13 (immediate forms). (R91, R93, R94, R95, R96, R97, R98.) -/
def Obligations.AddWritesTheSumAndAllFiveFlags : Prop :=
  ∀ (s : State) (i : Instr) (bs : List Byte) (op : Byte) (cin : Bool), AddForm s i bs op cin →
    Encodes i bs ∧ ∃ t, exec i s = .next t ∧
      t.a.toNat = (s.a.toNat + op.toNat + cin.toNat) % 256 ∧
      (t.flags.cy = true ↔ s.a.toNat + op.toNat + cin.toNat > 0xFF) ∧
      (t.flags.ac = true ↔ s.a.toNat % 16 + op.toNat % 16 + cin.toNat > 0xF) ∧
      ZspOf t.flags t.a ∧ FallsThrough s t bs [.A] []

/-- Every form of SUB and SBB gives A the value A - operand - borrow modulo 256 (borrow 0 for SUB,
F.CY for SBB); CY is 1 iff A is less than operand + borrow; AC is the carry out of bit 3 of A +
complement + (1 - borrow); Z, S, P are those of the result. It falls through; nothing else changes.
The rules carry the decisions D2, D3 (CY = 1 means a borrow) and D13. (R92, R99, R100, R101, R102, R103, R104.) -/
def Obligations.SubWritesTheDifferenceAndAllFiveFlags : Prop :=
  ∀ (s : State) (i : Instr) (bs : List Byte) (op : Byte) (bin : Bool), SubForm s i bs op bin →
    Encodes i bs ∧ ∃ t, exec i s = .next t ∧
      (t.a.toNat : Int) = ((s.a.toNat : Int) - op.toNat - bin.toNat) % 256 ∧
      (t.flags.cy = true ↔ s.a.toNat < op.toNat + bin.toNat) ∧
      (t.flags.ac = true ↔ s.a.toNat % 16 + (255 - op.toNat) % 16 + (1 - bin.toNat) > 0xF) ∧
      ZspOf t.flags t.a ∧ FallsThrough s t bs [.A] []

/-- INR adds 1 to and DCR subtracts 1 from a register, or the byte at H:L, modulo 256; Z, S, P are
those of the result; AC is 1 iff the old low nibble was 0xF (INR) or was not 0 (DCR); CY is
unaffected. It falls through by one byte; no other register and no other byte of memory changes.
The rules carry the decision D2. (R108, R109, R110, R111.) -/
def Obligations.InrAndDcrCountAByte : Prop :=
  (∀ (s : State) (i : Instr) (op : Byte) (r : Reg) (k : Int) (ac : Byte → Prop), CountRegForm i op r k ac →
    Encodes i [op] ∧ ∃ t, exec i s = .next t ∧
      ((t.reg r).toNat : Int) = ((s.reg r).toNat + k) % 256 ∧ (t.flags.ac = true ↔ ac (s.reg r)) ∧
      ZspOf t.flags (t.reg r) ∧ t.flags.cy = s.flags.cy ∧ FallsThrough s t [op] [r] []) ∧
  (∀ (s : State) (i : Instr) (op : Byte) (k : Int) (ac : Byte → Prop), CountMemForm i op k ac →
    Encodes i [op] ∧ ∃ t, exec i s = .next t ∧
      ((t.readByte (s.pair .HL)).toNat : Int) = ((s.readByte (s.pair .HL)).toNat + k) % 256 ∧
      (t.flags.ac = true ↔ ac (s.readByte (s.pair .HL))) ∧
      ZspOf t.flags (t.readByte (s.pair .HL)) ∧ t.flags.cy = s.flags.cy ∧
      FallsThrough s t [op] [] [s.pair .HL])

/-- INX rp adds 1 to and DCX rp subtracts 1 from the pair modulo 65536, for B:C, D:E, H:L and sp;
no flag changes, not even when the pair becomes 0; it falls through by one byte and nothing else
changes. (R112, R113.) -/
def Obligations.InxAndDcxCountAPair : Prop :=
  ∀ (s : State) (rp : RegPair),
    (Encodes (.inx rp) [opc (0x03 + 16 * pairCode rp)] ∧ ∃ t, exec (.inx rp) s = .next t ∧
      (t.pair rp).toNat = ((s.pair rp).toNat + 1) % 65536 ∧ t.flags = s.flags ∧ t.pc = s.pc + 1 ∧
      (rp ≠ .SP → t.sp = s.sp) ∧ Frame s t (pairRegs rp) []) ∧
    (Encodes (.dcx rp) [opc (0x0B + 16 * pairCode rp)] ∧ ∃ t, exec (.dcx rp) s = .next t ∧
      (t.pair rp).toNat = ((s.pair rp).toNat + 65535) % 65536 ∧ t.flags = s.flags ∧ t.pc = s.pc + 1 ∧
      (rp ≠ .SP → t.sp = s.sp) ∧ Frame s t (pairRegs rp) [])

/-- DAD rp gives H:L the sum of H:L and the pair modulo 65536 and CY = 1 iff the exact sum exceeds
0xFFFF; S, Z, AC, P and, for DAD SP, sp are unchanged, the incoming CY is not added; it falls
through by one byte and nothing else changes. (R114.) -/
def Obligations.DadAddsAPairToHL : Prop :=
  ∀ (s : State) (rp : RegPair), Encodes (.dad rp) [opc (0x09 + 16 * pairCode rp)] ∧
    ∃ t, exec (.dad rp) s = .next t ∧
      (t.pair .HL).toNat = ((s.pair .HL).toNat + (s.pair rp).toNat) % 65536 ∧
      (t.flags.cy = true ↔ (s.pair .HL).toNat + (s.pair rp).toNat > 0xFFFF) ∧
      t.flags.s = s.flags.s ∧ t.flags.z = s.flags.z ∧ t.flags.ac = s.flags.ac ∧ t.flags.p = s.flags.p ∧
      FallsThrough s t [opc (0x09 + 16 * pairCode rp)] [.H, .L] []

/-- DAA: if the low nibble of A exceeds 9 or AC is set, t1 = A + 6 and AC becomes the nibble carry,
else t1 = A and AC is kept; if t1 / 16 exceeds 9 or CY is set, 0x60 is added and CY becomes 1, else
CY is kept; A and Z, S, P take the final value. It falls through by one byte; nothing else changes.
The rule carries the decision D4; the last three clauses are the single-correction form the rule
says agrees for all 1024 inputs. (R115.) -/
def Obligations.DaaIsTheTwoStageFixup : Prop :=
  ∀ s : State, Encodes .daa [0x27] ∧ ∃ t, exec .daa s = .next t ∧
    ∃ t1 t2 : Nat,
      ((s.a.toNat % 16 > 9 ∨ s.flags.ac = true) →
        t1 = s.a.toNat + 6 ∧ (t.flags.ac = true ↔ s.a.toNat % 16 + 6 > 0xF)) ∧
      (¬ (s.a.toNat % 16 > 9 ∨ s.flags.ac = true) → t1 = s.a.toNat ∧ t.flags.ac = s.flags.ac) ∧
      ((t1 / 16 > 9 ∨ s.flags.cy = true) → t2 = t1 + 0x60 ∧ t.flags.cy = true) ∧
      (¬ (t1 / 16 > 9 ∨ s.flags.cy = true) → t2 = t1 ∧ t.flags.cy = s.flags.cy) ∧
      t.a.toNat = t2 % 256 ∧ ZspOf t.flags t.a ∧ FallsThrough s t [0x27] [.A] [] ∧
      t.a.toNat = (s.a.toNat +
        (if s.a.toNat % 16 > 9 ∨ s.flags.ac = true then 0x06 else 0) +
        (if s.a.toNat / 16 > 9 ∨ s.flags.cy = true ∨ (s.a.toNat / 16 ≥ 9 ∧ s.a.toNat % 16 > 9)
          then 0x60 else 0)) % 256 ∧
      (t.flags.cy = true ↔
        s.a.toNat / 16 > 9 ∨ s.flags.cy = true ∨ (s.a.toNat / 16 ≥ 9 ∧ s.a.toNat % 16 > 9)) ∧
      (t.flags.ac = true ↔
        s.a.toNat % 16 + (if s.a.toNat % 16 > 9 ∨ s.flags.ac = true then 0x06 else 0) > 0xF)

/-- If A holds the packed-decimal byte of m < 100 and CY is c, then ACI of the packed-decimal byte
of n < 100 followed by DAA leaves A the packed-decimal byte of (m + n + c) modulo 100 and CY = 1
iff m + n + c is at least 100. (A consequence of the rules, on D2 and D4.) (R98, R115, R106.) -/
def Obligations.PackedDecimalAdditionWithCarry : Prop :=
  ∀ (s : State) (m n : Nat), m < 100 → n < 100 → s.a = bcd m →
    ∃ t u, exec (.aci (bcd n)) s = .next t ∧ exec .daa t = .next u ∧
      u.a = bcd ((m + n + s.flags.cy.toNat) % 100) ∧
      (u.flags.cy = true ↔ 100 ≤ m + n + s.flags.cy.toNat)

/-! ### Logical, compare, rotate, carry -/

/-- Every form of ANA, XRA and ORA gives each bit of A the and, exclusive or, or or of the bits of
A and the operand; CY becomes 0, AC is untouched, Z, S, P are those of the result. It falls
through; nothing else changes. The immediate forms carry the decision D13. (R130, R131, R132, R133, R134, R135, R136, R137, R138, R139.) -/
def Obligations.LogicWritesTheBitwiseResult : Prop :=
  ∀ (s : State) (i : Instr) (bs : List Byte) (op : Byte) (f : Bool → Bool → Bool), LogicForm s i bs op f →
    Encodes i bs ∧ ∃ t, exec i s = .next t ∧
      (∀ k < 8, t.a.getLsbD k = f (s.a.getLsbD k) (op.getLsbD k)) ∧
      t.flags.cy = false ∧ t.flags.ac = s.flags.ac ∧ ZspOf t.flags t.a ∧ FallsThrough s t bs [.A] []

/-- Every form of CMP leaves A, every register and memory unchanged; Z is 1 iff A equals the
operand, CY iff A is less than the operand as unsigned Bytes, AC is the carry out of bit 3 of the
complement addition, S and P are those of the difference modulo 256. It falls through. The rules
carry the decisions D2, D3 and D13. (R140, R141, R142.) -/
def Obligations.CompareWritesOnlyFlags : Prop :=
  ∀ (s : State) (i : Instr) (bs : List Byte) (op : Byte), CompareForm s i bs op →
    Encodes i bs ∧ ∃ t, exec i s = .next t ∧
      (t.flags.z = true ↔ s.a = op) ∧ (t.flags.cy = true ↔ s.a.toNat < op.toNat) ∧
      (t.flags.ac = true ↔ s.a.toNat % 16 + (255 - op.toNat) % 16 + 1 > 0xF) ∧
      ZspOf t.flags (BitVec.ofNat 8 (s.a.toNat + 256 - op.toNat)) ∧ FallsThrough s t bs [] []

/-- RLC and RRC rotate A by one place and copy the bit that wraps to CY; RAL and RAR rotate the
nine bits CY:A. S, Z, AC, P are unchanged; each falls through by one byte and changes nothing else.
The rules carry the decision D14 (other flags unchanged). (R143, R144, R145, R146.) -/
def Obligations.RotatesMoveEveryBit : Prop :=
  ∀ s : State,
    (Encodes .rlc [0x07] ∧ ∃ t, exec .rlc s = .next t ∧
      (∀ k < 8, t.a.getLsbD k = s.a.getLsbD ((k + 7) % 8)) ∧
      t.flags = { s.flags with cy := s.a.getLsbD 7 } ∧ FallsThrough s t [0x07] [.A] []) ∧
    (Encodes .rrc [0x0F] ∧ ∃ t, exec .rrc s = .next t ∧
      (∀ k < 8, t.a.getLsbD k = s.a.getLsbD ((k + 1) % 8)) ∧
      t.flags = { s.flags with cy := s.a.getLsbD 0 } ∧ FallsThrough s t [0x0F] [.A] []) ∧
    (Encodes .ral [0x17] ∧ ∃ t, exec .ral s = .next t ∧
      (∀ k < 7, t.a.getLsbD (k + 1) = s.a.getLsbD k) ∧ t.a.getLsbD 0 = s.flags.cy ∧
      t.flags = { s.flags with cy := s.a.getLsbD 7 } ∧ FallsThrough s t [0x17] [.A] []) ∧
    (Encodes .rar [0x1F] ∧ ∃ t, exec .rar s = .next t ∧
      (∀ k < 7, t.a.getLsbD k = s.a.getLsbD (k + 1)) ∧ t.a.getLsbD 7 = s.flags.cy ∧
      t.flags = { s.flags with cy := s.a.getLsbD 0 } ∧ FallsThrough s t [0x1F] [.A] [])

/-- CMA gives A its complement 255 - A and changes no flag; STC makes CY 1 and CMC complements CY,
no other flag and no register changing. Each falls through by one byte and changes nothing else.
The rules carry the decisions D11 and D14. (R147, R148, R149.) -/
def Obligations.ComplementAndCarryInstructions : Prop :=
  ∀ s : State,
    (Encodes .cma [0x2F] ∧ ∃ t, exec .cma s = .next t ∧ t.a.toNat = 255 - s.a.toNat ∧
      t.flags = s.flags ∧ FallsThrough s t [0x2F] [.A] []) ∧
    (Encodes .stc [0x37] ∧ ∃ t, exec .stc s = .next t ∧ t.flags = { s.flags with cy := true } ∧
      FallsThrough s t [0x37] [] []) ∧
    (Encodes .cmc [0x3F] ∧ ∃ t, exec .cmc s = .next t ∧ t.flags = { s.flags with cy := !s.flags.cy } ∧
      FallsThrough s t [0x3F] [] [])

/-! ### Control transfer -/

/-- JMP in both encodings sets pc to a16; each conditional jump does so when its flag has the
tested value and otherwise advances pc by 3. sp, every flag, register and byte of memory are
unchanged. (R161, R162, R163, R164, R165, R166, R167, R168, R169.) -/
def Obligations.JumpsGoToTheTargetWhenTheConditionHolds : Prop :=
  ∀ (s : State) (i : Instr) (op : Byte) (w : Word) (cond : Prop), JumpForm s.flags i op w cond →
    Encodes i [op, low w, high w] ∧ ∃ t, exec i s = .next t ∧
      (cond → t.pc = w) ∧ (¬ cond → t.pc = s.pc + 3) ∧ t.sp = s.sp ∧ t.flags = s.flags ∧ Frame s t [] []

/-- CALL, and a conditional call whose condition holds, store the high byte of pc + 3 at sp - 1 and
the low byte at sp - 2, take 2 from sp and set pc to a16; an untaken one advances pc by 3 with sp
and memory untouched. Flags and registers are unchanged. (R170, R171, R172, R173, R174, R175, R176, R177, R178.) -/
def Obligations.CallsPushTheReturnAddress : Prop :=
  ∀ (s : State) (i : Instr) (op : Byte) (w : Word) (cond : Prop), CallForm s.flags i op w cond →
    Encodes i [op, low w, high w] ∧ ∃ t, exec i s = .next t ∧ t.flags = s.flags ∧
      (cond → t.pc = w ∧ t.sp = s.sp - 2 ∧ t.readByte (s.sp - 1) = high (s.pc + 3) ∧
        t.readByte (s.sp - 2) = low (s.pc + 3) ∧ Frame s t [] [s.sp - 1, s.sp - 2]) ∧
      (¬ cond → t.pc = s.pc + 3 ∧ t.sp = s.sp ∧ Frame s t [] [])

/-- RET, and a conditional return whose condition holds, set pc to the Word with low byte at sp and
high byte at sp + 1 and add 2 to sp; an untaken one advances pc by 1 with sp untouched. Memory,
flags and registers are unchanged. (R179, R180, R181, R182, R183, R184, R185, R186, R187.) -/
def Obligations.ReturnsPopThePc : Prop :=
  ∀ (s : State) (i : Instr) (op : Byte) (cond : Prop), ReturnForm s.flags i op cond →
    Encodes i [op] ∧ ∃ t, exec i s = .next t ∧ t.flags = s.flags ∧ Frame s t [] [] ∧
      (cond → t.pc = word (s.readByte (s.sp + 1)) (s.readByte s.sp) ∧ t.sp = s.sp + 2) ∧
      (¬ cond → t.pc = s.pc + 1 ∧ t.sp = s.sp)

/-- RST n stores the high byte of pc + 1 at sp - 1 and the low byte at sp - 2, takes 2 from sp and
sets pc to 8 times n; flags, registers and all other memory are unchanged (RST 0 resets nothing). (R188.) -/
def Obligations.RstCallsAFixedAddress : Prop :=
  ∀ (s : State) (n : BitVec 3), Encodes (.rst n) [opc (0xC7 + 8 * n.toNat)] ∧
    ∃ t, exec (.rst n) s = .next t ∧ t.pc.toNat = 8 * n.toNat ∧ t.sp = s.sp - 2 ∧
      t.readByte (s.sp - 1) = high (s.pc + 1) ∧ t.readByte (s.sp - 2) = low (s.pc + 1) ∧
      t.flags = s.flags ∧ Frame s t [] [s.sp - 1, s.sp - 2]

/-- PCHL sets pc to H:L and pushes nothing; SPHL sets sp to H:L and falls through by one byte. H:L,
the flags, every register and memory are unchanged. (R189, R216.) -/
def Obligations.PchlAndSphlTakeHL : Prop :=
  ∀ s : State,
    (Encodes .pchl [0xE9] ∧ ∃ t, exec .pchl s = .next t ∧ t.pc = word s.h s.l ∧ t.sp = s.sp ∧
      t.flags = s.flags ∧ Frame s t [] []) ∧
    (Encodes .sphl [0xF9] ∧ ∃ t, exec .sphl s = .next t ∧ t.sp = word s.h s.l ∧ t.pc = s.pc + 1 ∧
      t.flags = s.flags ∧ Frame s t [] [])

/-- Executing CALL a16 and then RET gives a state with pc = the old pc + 3, sp, every flag and
every register as before the call, wherever the stack is (it may wrap around either end of memory). (R39, R170, R179, R190.) -/
def Obligations.CallThenRetComesBack : Prop :=
  ∀ (s : State) (w : Word), ∃ t u, exec (.call w) s = .next t ∧ exec .ret t = .next u ∧
    u.pc = s.pc + 3 ∧ u.sp = s.sp ∧ u.flags = s.flags ∧ ∀ r, u.reg r = s.reg r

/-! ### Stack, ports, machine control -/

/-- PUSH of B, D or H stores the high register at sp - 1 and the low register at sp - 2; PUSH PSW
stores A at sp - 1 and the PSW byte, bits S Z 0 AC 0 P 1 CY, at sp - 2; sp decreases by 2. Flags,
registers and all other memory are unchanged; it falls through by one byte. R212 carries the
decision D17 (A is the high byte). (R210, R212.) -/
def Obligations.PushStoresHighThenLow : Prop :=
  (∀ (s : State) (rp : RegPair), (Instr.push rp).wf = true →
    Encodes (.push rp) [opc (0xC5 + 16 * pairCode rp)] ∧ ∃ t, exec (.push rp) s = .next t ∧
      some (t.readByte (s.sp - 1)) = (pairRegs rp)[0]?.map s.reg ∧
      some (t.readByte (s.sp - 2)) = (pairRegs rp)[1]?.map s.reg ∧
      t.sp = s.sp - 2 ∧ t.pc = s.pc + 1 ∧ t.flags = s.flags ∧ Frame s t [] [s.sp - 1, s.sp - 2]) ∧
  (∀ s : State, Encodes .pushPsw [0xF5] ∧ ∃ t, exec .pushPsw s = .next t ∧
      t.readByte (s.sp - 1) = s.a ∧
      (t.readByte (s.sp - 2)).getLsbD 7 = s.flags.s ∧ (t.readByte (s.sp - 2)).getLsbD 6 = s.flags.z ∧
      (t.readByte (s.sp - 2)).getLsbD 5 = false ∧ (t.readByte (s.sp - 2)).getLsbD 4 = s.flags.ac ∧
      (t.readByte (s.sp - 2)).getLsbD 3 = false ∧ (t.readByte (s.sp - 2)).getLsbD 2 = s.flags.p ∧
      (t.readByte (s.sp - 2)).getLsbD 1 = true ∧ (t.readByte (s.sp - 2)).getLsbD 0 = s.flags.cy ∧
      t.sp = s.sp - 2 ∧ t.pc = s.pc + 1 ∧ t.flags = s.flags ∧ Frame s t [] [s.sp - 1, s.sp - 2])

/-- POP of B, D or H gives the low register the byte at sp and the high register the byte at sp +
1; POP PSW gives the five flags bits 7, 6, 4, 2, 0 of the byte at sp and A the byte at sp + 1; sp
increases by 2. Memory and every other register are unchanged, and POP rp changes no flag; it falls
through by one byte. R214 carries the decision D17. (R213, R214.) -/
def Obligations.PopLoadsLowThenHigh : Prop :=
  (∀ (s : State) (rp : RegPair), (Instr.pop rp).wf = true →
    Encodes (.pop rp) [opc (0xC1 + 16 * pairCode rp)] ∧ ∃ t, exec (.pop rp) s = .next t ∧
      (pairRegs rp)[1]?.map t.reg = some (s.readByte s.sp) ∧
      (pairRegs rp)[0]?.map t.reg = some (s.readByte (s.sp + 1)) ∧
      t.sp = s.sp + 2 ∧ t.pc = s.pc + 1 ∧ t.flags = s.flags ∧ Frame s t (pairRegs rp) []) ∧
  (∀ s : State, Encodes .popPsw [0xF1] ∧ ∃ t, exec .popPsw s = .next t ∧
      t.flags.s = (s.readByte s.sp).getLsbD 7 ∧ t.flags.z = (s.readByte s.sp).getLsbD 6 ∧
      t.flags.ac = (s.readByte s.sp).getLsbD 4 ∧ t.flags.p = (s.readByte s.sp).getLsbD 2 ∧
      t.flags.cy = (s.readByte s.sp).getLsbD 0 ∧ t.a = s.readByte (s.sp + 1) ∧
      t.sp = s.sp + 2 ∧ t.pc = s.pc + 1 ∧ Frame s t [.A] [])

/-- PUSH rp then POP q leaves q holding the old value of rp, with sp, the flags and every other
register as before; PUSH PSW then POP PSW leaves A, all five flags, sp and every register as
before. Consequences of the rules ("`Pop()` after `Push(w)` ... returns `w` and restores `sp`"). (R39, R16, R210, R212, R213, R214.) -/
def Obligations.PushThenPopMovesThePair : Prop :=
  (∀ (s : State) (rp q : RegPair), (Instr.push rp).wf = true → (Instr.pop q).wf = true →
    ∃ t u, exec (.push rp) s = .next t ∧ exec (.pop q) t = .next u ∧ u.pair q = s.pair rp ∧
      u.sp = s.sp ∧ u.flags = s.flags ∧ ∀ r, r ∉ pairRegs q → u.reg r = s.reg r) ∧
  (∀ s : State, ∃ t u, exec .pushPsw s = .next t ∧ exec .popPsw t = .next u ∧ u.flags = s.flags ∧
      u.sp = s.sp ∧ ∀ r, u.reg r = s.reg r)

/-- XTHL gives L the byte at sp and H the byte at sp + 1 and stores the old L at sp and the old H
at sp + 1, both reads before both writes; sp, the flags, every other register and byte are
unchanged; it falls through by one byte; a second XTHL restores H, L and both bytes. The rule
carries the decision D11. (R215.) -/
def Obligations.XthlSwapsHLWithTheTopOfStack : Prop :=
  ∀ s : State, Encodes .xthl [0xE3] ∧ ∃ t, exec .xthl s = .next t ∧
    t.l = s.readByte s.sp ∧ t.h = s.readByte (s.sp + 1) ∧ t.readByte s.sp = s.l ∧
    t.readByte (s.sp + 1) = s.h ∧ t.flags = s.flags ∧
    FallsThrough s t [0xE3] [.H, .L] [s.sp, s.sp + 1] ∧
    ∃ u, exec .xthl t = .next u ∧ (∀ r, u.reg r = s.reg r) ∧ ∀ a, u.readByte a = s.readByte a

/-- IN p8 falls through by two bytes and sets neither diagnostic bit. With the bridge absent
nothing else changes; with it present A takes the environment's answer, a free value of which
nothing is known, and only the model's count of answers moves besides. Flags, sp, other registers
and memory are unchanged. The free value and the count are the form the model gives the oracle of
R220 (log 4); R220 carries the decision D7. (44_stack_io_machine.md section 2.) -/
def Obligations.InTakesTheEnvironmentsByteOrNothing : Prop :=
  ∀ (s : State) (p8 : Byte), Encodes (.inPort p8) [0xDB, p8] ∧ ∃ t, exec (.inPort p8) s = .next t ∧
    t.flags = s.flags ∧
    (s.params.ioBridge = .absent → t.a = s.a ∧ FallsThrough s t [0xDB, p8] [] []) ∧
    (s.params.ioBridge = .present →
      t.a = Config.ioAnswer s.env.inCount p8 ∧ t.env = { s.env with inCount := s.env.inCount + 1 } ∧
      FallsThrough s { t with env := s.env } [0xDB, p8] [.A] [])

/-- OUT p8 falls through by two bytes; no register, flag, byte of memory or status bit changes.
With the bridge absent nothing is emitted; with it present the event (p8, A) is added at the end of
the port output trace (the model's own record, log 5). The rule is R221, which carries the decision
D7. (44_stack_io_machine.md section 2.) -/
def Obligations.OutChangesNothingButTheTrace : Prop :=
  ∀ (s : State) (p8 : Byte), Encodes (.outPort p8) [0xD3, p8] ∧ ∃ t, exec (.outPort p8) s = .next t ∧
    t.flags = s.flags ∧ FallsThrough s { t with env := s.env } [0xD3, p8] [] [] ∧
    t.env = { s.env with
      outs := s.env.outs ++ (if s.params.ioBridge = .present then [(p8, s.a)] else []) }

/-- EI makes INTE 1 and DI makes INTE 0 as soon as the step ends; pc advances by 1; sp, the flags,
every register, memory, HALTED and the diagnostic bits are unchanged. R222 carries the decision
D10. (R222, R223.) -/
def Obligations.EiAndDiWriteInte : Prop :=
  ∀ s : State,
    (Encodes .ei [0xFB] ∧ ∃ t, exec .ei s = .next t ∧ t.inte = true ∧ t.flags = s.flags ∧
      FallsThrough s { t with inte := s.inte } [0xFB] [] []) ∧
    (Encodes .di [0xF3] ∧ ∃ t, exec .di s = .next t ∧ t.inte = false ∧ t.flags = s.flags ∧
      FallsThrough s { t with inte := s.inte } [0xF3] [] [])

/-- HLT makes HALTED 1 and advances pc by 1; nothing else changes, whatever INTE is. R224 carries
the decision D8. (R224.) -/
def Obligations.HltSetsHaltedAndGoesOn : Prop :=
  ∀ s : State, Encodes .hlt [0x76] ∧ ∃ t, exec .hlt s = .next t ∧ t.halted = true ∧ t.flags = s.flags ∧
    FallsThrough s { t with halted := s.halted } [0x76] [] []

/-- NOP (0x00) and each of 0x08, 0x10, 0x18, 0x20, 0x28, 0x30, 0x38 advance pc by 1 modulo 65536
and change nothing else; they set no diagnostic bit. (R225, R226.) -/
def Obligations.NopAndItsSynonymsOnlyAdvance : Prop :=
  (∀ s : State, Encodes .nop [0x00] ∧ exec .nop s = .next { s with pc := s.pc + 1 }) ∧
  (∀ (s : State) (y : BitVec 3), (Instr.nopSyn y).wf = true →
    Encodes (.nopSyn y) [opc (8 * y.toNat)] ∧ exec (.nopSyn y) s = .next { s with pc := s.pc + 1 })

/-- Each opcode without a handler makes UNIMPL 1 and advances pc by 1; no register, flag, byte of
memory, sp, INTE, HALTED or STUB changes: no return and no call is performed. R228 carries the
decision D5. (R228.) -/
def Obligations.UnimplementedOpcodesOnlyReport : Prop :=
  ∀ (s : State) (op : NoHandler),
    Encodes (.unimpl .xD9) [0xD9] ∧ Encodes (.unimpl .xDD) [0xDD] ∧ Encodes (.unimpl .xED) [0xED] ∧
    Encodes (.unimpl .xFD) [0xFD] ∧ exec (.unimpl op) s = .next { s with pc := s.pc + 1, unimpl := true }

/-! ### Interrupts -/

/-- Delivering an interrupt with vector v stores the high byte of pc at sp - 1 and the low byte at
sp - 2, takes 2 from sp, sets pc to 8 v, and makes INTE 0 if INT_ACK_CLEARS_INTE, otherwise leaves
it. No register, flag, other byte, HALTED, UNIMPL or STUB changes. The parameter is a field of the
state, so both values are covered. R243 carries the decisions D1, D9 and D21. (R243.) -/
def Obligations.DeliverInterruptPushesPcAndVectors : Prop :=
  ∀ (s : State) (v : BitVec 3), ∃ t, s.deliverInterrupt v = t ∧ t.pc.toNat = 8 * v.toNat ∧
    t.sp = s.sp - 2 ∧ t.readByte (s.sp - 1) = high s.pc ∧ t.readByte (s.sp - 2) = low s.pc ∧
    (s.params.intAckClearsInte = true → t.inte = false) ∧
    (s.params.intAckClearsInte = false → t.inte = s.inte) ∧ t.flags = s.flags ∧
    Frame s { t with inte := s.inte } [] [s.sp - 1, s.sp - 2]

/-- When the next move is a request with vector v, the step delivers that interrupt if INTE is 1
and otherwise changes nothing of the block; when it is the clearing of UNIMPL or of STUB, the step
makes that bit 0 and changes nothing else; in every case only that move is taken off the list of
turns, the model's own (log 6). (R6, R20, R21, R242, R244.) -/
def Obligations.EnvironmentMovesOnlyRequestOrClear : Prop :=
  ∀ (s : State) (ts : List Turn),
    (∀ v, s.env.turns = .request v :: ts →
      (s.inte = true → step s = .next ((s.withTurns ts).deliverInterrupt v)) ∧
      (s.inte = false → step s = .next (s.withTurns ts))) ∧
    (s.env.turns = .clearUnimpl :: ts → step s = .next { s.withTurns ts with unimpl := false }) ∧
    (s.env.turns = .clearStub :: ts → step s = .next { s.withTurns ts with stub := false })

/-- If INTE is 1, accepting a request and then executing RET gives pc, sp, every flag and every
register as they were before the request, and HALTED, UNIMPL and STUB too; INTE is not restored: it
is 0 exactly if the parameter clears it on delivery. (R243, R246, R247, R179.) -/
def Obligations.InterruptThenRetResumes : Prop :=
  ∀ (s : State) (v : BitVec 3), s.inte = true → ∃ u, exec .ret (s.request v) = .next u ∧
    u.pc = s.pc ∧ u.sp = s.sp ∧ u.flags = s.flags ∧ (∀ r, u.reg r = s.reg r) ∧
    u.halted = s.halted ∧ u.unimpl = s.unimpl ∧ u.stub = s.stub ∧
    (u.inte = false ↔ s.params.intAckClearsInte = true)

/-! ### Rules about the whole machine -/

/-- ToPSW puts S, Z, AC, P, CY in bits 7, 6, 4, 2, 0 with bit 5 = 0, bit 3 = 0, bit 1 = 1; FromPSW
takes them back and ignores the other three; FromPSW(ToPSW(F)) = F and ToPSW(FromPSW(b)) = (b &
0xD5) | 0x02; all flags 0 gives 0x02 and all 1 gives 0xD7. R16 marks the equation for
ToPSW(FromPSW(b)) as its own derivation. (R15, R16.) -/
def Obligations.PswConversions : Prop :=
  (∀ f : Flags, f.toPsw.getLsbD 7 = f.s ∧ f.toPsw.getLsbD 6 = f.z ∧ f.toPsw.getLsbD 5 = false ∧
    f.toPsw.getLsbD 4 = f.ac ∧ f.toPsw.getLsbD 3 = false ∧ f.toPsw.getLsbD 2 = f.p ∧
    f.toPsw.getLsbD 1 = true ∧ f.toPsw.getLsbD 0 = f.cy ∧ Flags.ofPsw f.toPsw = f) ∧
  (∀ b : Byte, (Flags.ofPsw b).s = b.getLsbD 7 ∧ (Flags.ofPsw b).z = b.getLsbD 6 ∧
    (Flags.ofPsw b).ac = b.getLsbD 4 ∧ (Flags.ofPsw b).p = b.getLsbD 2 ∧
    (Flags.ofPsw b).cy = b.getLsbD 0 ∧ (Flags.ofPsw b).toPsw = (b &&& 0xD5) ||| 0x02) ∧
  (Flags.mk false false false false false).toPsw = 0x02 ∧ (Flags.mk true true true true true).toPsw = 0xD7

/-- For every instruction: a flag the table does not mark as written is unchanged; a flag marked 0
or 1 has that value; and if two states differ only in flags the table does not mark as read, the
two next states agree in every register, byte of memory, pc, sp, status bit, parameter and
environment field, and in every written flag. For IN with the bridge present the agreement in A is
the model's choice: both read the same answer at the same count (log 4). R17 carries the decisions
D13 and D14. (R17, 10_state.md section 3.) -/
def Obligations.FlagTableIsKeptByEveryInstruction : Prop :=
  ∀ (i : Instr) (s : State) (f : Flags), (∀ n, reads i n = true → flag f n = flag s.flags n) →
    ∃ t u, exec i s = .next t ∧ exec i (s.setFlags f) = .next u ∧
      (∀ n, writes i n = false → flag t.flags n = flag s.flags n) ∧
      (∀ n b, forced i n = some b → flag t.flags n = b) ∧
      (∀ n, writes i n = true → flag u.flags n = flag t.flags n) ∧ u.pc = t.pc ∧ u.sp = t.sp ∧
      Frame t u [] []

/-- If two states differ only in INTE, HALTED, UNIMPL and STUB, then after any instruction the two
next states agree in every register, flag, byte of memory, pc, sp, parameter and environment field.
In particular an instruction executed with HALTED = 1 acts as always. For IN with the bridge
present the agreement in A is the model's choice: both read the same answer at the same count (log
4, DESIGN CHOICE), where R220 lets the environment answer freely. (R18, R19, R20, R279.) -/
def Obligations.StatusBitsAreReadByNoInstruction : Prop :=
  ∀ (i : Instr) (s : State) (inte halted unimpl stub : Bool),
    ∃ t u, exec i s = .next t ∧ exec i (withStatus s inte halted unimpl stub) = .next u ∧
      (∀ r, u.reg r = t.reg r) ∧ u.flags = t.flags ∧ (∀ a, u.readByte a = t.readByte a) ∧
      u.pc = t.pc ∧ u.sp = t.sp ∧ u.params = t.params ∧ u.env = t.env

/-- On the engine's turn INTE after the step is 1 if the opcode at pc is 0xFB, 0 if it is 0xF3, and
unchanged otherwise; on a request INTE becomes 0 exactly if it was 0 or the parameter clears it on
delivery; the environment's other moves leave it. (R18, R222, R223, R243.) -/
def Obligations.InteChangesOnlyByEiDiAndDelivery : Prop :=
  ∀ s t : State, step s = .next t →
    (EngineTurn s → t.inte = if s.readByte s.pc = 0xFB then true
      else if s.readByte s.pc = 0xF3 then false else s.inte) ∧
    (∀ v ts, s.env.turns = .request v :: ts → t.inte = (s.inte && !s.params.intAckClearsInte)) ∧
    (∀ ts, s.env.turns = .clearUnimpl :: ts ∨ s.env.turns = .clearStub :: ts → t.inte = s.inte)

/-- After any step HALTED is 1 exactly if it was 1 before, or the move was the engine's and the
opcode at pc was 0x76. (R19, R224, R255.) -/
def Obligations.HaltedIsSetOnlyByHltAndNeverCleared : Prop :=
  ∀ s t : State, step s = .next t →
    (t.halted = true ↔ s.halted = true ∨ EngineTurn s ∧ s.readByte s.pc = 0x76)

/-- On the engine's turn UNIMPL after the step is 1 exactly if it was 1 or the opcode at pc is
0xD9, 0xDD, 0xED or 0xFD, and STUB is unchanged. (R20, R61, R228, R229.) -/
def Obligations.DiagnosticBitsAreSticky : Prop :=
  ∀ s t : State, EngineTurn s → step s = .next t →
    (t.unimpl = true ↔ s.unimpl = true ∨ s.readByte s.pc ∈ [0xD9#8, 0xDD#8, 0xED#8, 0xFD#8]) ∧
    t.stub = s.stub

/-- After any step the two parameters are as before, the port output trace before is a prefix of
the trace after, and the count of IN answers has not decreased (fields of the model: logs 2 to 5). (R5, R221.) -/
def Obligations.ParametersAndTraceArePreserved : Prop :=
  ∀ s t : State, step s = .next t →
    t.params = s.params ∧ s.env.outs <+: t.env.outs ∧ s.env.inCount ≤ t.env.inCount

/-- After any instruction every byte of memory is the one its rule stores there, or the byte
before; the next step runs what those bytes decode to at the new pc, wherever the stores fell. And
a step runs the instruction its bytes decoded to before the stores, even where it stores over its
own opcode or operand bytes: it completes with pc where the rule puts it and every byte stored. (R33, R34, R43.) -/
def Obligations.StoresAreSeenByTheNextFetch : Prop :=
  (∀ (i : Instr) (s : State), ∃ t, exec i s = .next t ∧ (∀ a, t.readByte a = byteAfter i s a) ∧
    ∀ (j : Instr) (rest : List Byte), s.env.turns = [] →
      decode [byteAfter i s (pcAfter i s), byteAfter i s (pcAfter i s + 1),
        byteAfter i s (pcAfter i s + 2)] = .ok (j, rest) → step t = exec j t) ∧
  (∀ (s : State) (i : Instr) (rest : List Byte), s.env.turns = [] →
    decode [s.readByte s.pc, s.readByte (s.pc + 1), s.readByte (s.pc + 2)] = .ok (i, rest) →
    ∃ t, step s = .next t ∧ t.pc = pcAfter i s ∧ ∀ a, t.readByte a = byteAfter i s a)

/-- If memory is in the canonical form (addresses strictly rising and below 65536, no byte equal to
the reset value 0), then it is after any step, the engine's or the environment's. The form is the
model's representation of the 65536 bytes (log 1). (R22, R30, 20_memory.md section 1.) -/
def Obligations.EveryStepKeepsMemoryCanonical : Prop :=
  ∀ s t : State, s.Inv → step s = .next t → t.Inv

/-- Two memories in the canonical form that give the same byte at each of the 65536 addresses are
the same list, so equal memories are equal data (the model's representation, log 1). (R22.) -/
def Obligations.CanonicalMemoriesAreEqualWhenTheyReadAlike : Prop :=
  ∀ m n : Memory, Memory.wf m → Memory.wf n →
    (∀ a : Word, Memory.read m a.toNat = Memory.read n a.toNat) → m = n

/-- In the reset state every register, pc, sp, every flag, INTE, HALTED, UNIMPL and STUB are 0 and
every byte of memory reads 0x00; the PSW image is 0x02. R25 carries the decision D16 for UNIMPL and
STUB. (R25.) -/
def Obligations.ResetClearsEverything : Prop :=
  (∀ r, State.reset.reg r = 0) ∧ State.reset.pc = 0 ∧ State.reset.sp = 0 ∧
    (∀ n, flag State.reset.flags n = false) ∧ State.reset.inte = false ∧ State.reset.halted = false ∧
    State.reset.unimpl = false ∧ State.reset.stub = false ∧ (∀ a, State.reset.readByte a = 0) ∧
    State.reset.flags.toPsw = 0x02

/-- The invariant that every step keeps, the canonical form of the list that represents memory,
holds of the reset state. The form is the model's own choice (log 1, DESIGN CHOICE); the contents,
every byte 0, are the rules'. (R22, R25.) -/
def Obligations.ResetMemoryIsCanonical : Prop :=
  State.reset.Inv

/-- Launching any list of images answers no state when some image of n bytes at origin o has o + n
above 65536. Otherwise it answers the reset state with pc set; byte i of each image stands at o + i
unless a later image of the list covers that address, every address no image covers reads 0, memory
is in its canonical form (the model's representation, log 1), and nothing else differs from reset.
That launch answers an option and places images in the order of the list is log 7. (R257, R273.) -/
def Obligations.LaunchPlacesTheWholeImageOrRefuses : Prop :=
  ∀ (images : List (Nat × List Byte)) (entry : Word),
    ((∃ x ∈ images, 65536 < x.1 + x.2.length) → launch images entry = none) ∧
    ((∀ x ∈ images, x.1 + x.2.length ≤ 65536) → ∃ s, launch images entry = some s ∧ s.pc = entry ∧
      (∀ before o image later, images = before ++ (o, image) :: later →
        ∀ k (h : k < image.length), (∀ y ∈ later, o + k < y.1 ∨ y.1 + y.2.length ≤ o + k) →
          s.readByte (BitVec.ofNat 16 (o + k)) = image[k]) ∧
      (∀ a : Word, (∀ x ∈ images, a.toNat < x.1 ∨ x.1 + x.2.length ≤ a.toNat) → s.readByte a = 0) ∧
      s.Inv ∧ { s with mem := State.reset.mem, pc := State.reset.pc } = State.reset)

/-- Under the run convention a run of no move is where it began; while HALTED = 0 the run makes the
next step and goes on from there; a state with HALTED = 1 is its own end state. A run that has
ended with HALTED = 1, whatever UNIMPL is, has the same end state however many more moves are
allowed. A run that began with HALTED = 0 and ended with HALTED = 1 made as its last move the
engine's step at an opcode 0x76 from a state with HALTED = 0, and ended with pc one past that HLT.
The convention is R256's, by the decision D8 (log 12). (R256.) -/
def Obligations.AHaltedRunHasEnded : Prop :=
  (∀ s : State, runUntilHalted 0 s = .next s) ∧
  (∀ (n : Nat) (s t : State), s.halted = false → step s = .next t →
    runUntilHalted (n + 1) s = runUntilHalted n t) ∧
  (∀ (n : Nat) (s : State), s.halted = true → runUntilHalted n s = .next s) ∧
  (∀ (n k : Nat) (s t : State), runUntilHalted n s = .next t → t.halted = true →
    runUntilHalted (n + k) s = .next t) ∧
  (∀ (n : Nat) (s t : State), s.halted = false → runUntilHalted n s = .next t → t.halted = true →
    ∃ m u, m < n ∧ runUntilHalted m s = .next u ∧ u.halted = false ∧ EngineTurn u ∧
      u.readByte u.pc = 0x76 ∧ step u = .next t ∧ t.pc = u.pc + 1)
end

