-- ==== Sys2Proof/Laws/Memory.lean ====
section
/-! SUPPORT. Memory: read after write, and every operation keeps the canonical form. -/

namespace Sys2Proof.Machine

/-! ### Reading -/

theorem Memory.read_erase (m : Memory) (k j : Nat) :
    Memory.read (Memory.erase m k) j = if j = k then Memory.unlisted else Memory.read m j := by
  induction m with
  | nil => simp [Memory.erase, Memory.read]
  | cons x m ih =>
    simp only [Memory.erase]
    split <;> simp only [Memory.read, ih] <;> split_ifs <;> simp_all

theorem Memory.read_insert (m : Memory) (k j : Nat) (v : Byte) (h : ∀ x ∈ m, x.1 ≠ k) :
    Memory.read (Memory.insert m k v) j = if j = k then v else Memory.read m j := by
  induction m with
  | nil => simp only [Memory.insert, Memory.read, @eq_comm _ k j]
  | cons x m ih =>
    have hx := h x (by simp)
    have ih := ih fun y hy => h y (by simp [hy])
    simp only [Memory.insert]
    split
    · simp only [Memory.read, @eq_comm _ k j]
    · simp only [Memory.read, ih]
      by_cases hj : x.1 = j
      · rw [if_pos hj, if_pos hj, if_neg (by rintro rfl; exact hx hj)]
      · rw [if_neg hj, if_neg hj]

theorem Memory.mem_erase (m : Memory) (k : Nat) (x : Host.Cell) :
    x ∈ Memory.erase m k ↔ x ∈ m ∧ x.1 ≠ k := by
  induction m with
  | nil => simp [Memory.erase]
  | cons y m ih =>
    simp only [Memory.erase]
    split <;> simp only [ih, List.mem_cons] <;> constructor <;> rintro h <;> aesop

/-- A read after a write: the written Byte at its own address, every other address as before. -/
theorem Memory.read_write (m : Memory) (k j : Nat) (v : Byte) :
    Memory.read (Memory.write m k v) j = if j = k then v else Memory.read m j := by
  unfold Memory.write
  split
  · rename_i h; subst h; exact Memory.read_erase m k j
  · rw [Memory.read_insert _ _ _ _ fun x hx => ((Memory.mem_erase m k x).1 hx).2, Memory.read_erase]
    split_ifs <;> rfl

/-! ### The canonical form -/

theorem Memory.mem_insert (m : Memory) (k : Nat) (v : Byte) (x : Host.Cell) :
    x ∈ Memory.insert m k v ↔ x = (k, v) ∨ x ∈ m := by
  induction m with
  | nil => simp [Memory.insert]
  | cons y m ih =>
    simp only [Memory.insert]
    split
    · simp
    · simp only [List.mem_cons, ih]; tauto

theorem Memory.pairwise_erase (m : Memory) (k : Nat) (h : m.Pairwise (fun x y => x.1 < y.1)) :
    (Memory.erase m k).Pairwise (fun x y => x.1 < y.1) := by
  induction m with
  | nil => simp [Memory.erase]
  | cons y m ih =>
    rw [List.pairwise_cons] at h
    simp only [Memory.erase]
    split
    · exact ih h.2
    · exact List.pairwise_cons.2 ⟨fun x hx => h.1 x ((Memory.mem_erase m k x).1 hx).1, ih h.2⟩

theorem Memory.pairwise_insert (m : Memory) (k : Nat) (v : Byte) (hk : ∀ x ∈ m, x.1 ≠ k)
    (h : m.Pairwise (fun x y => x.1 < y.1)) :
    (Memory.insert m k v).Pairwise (fun x y => x.1 < y.1) := by
  induction m with
  | nil => simp [Memory.insert]
  | cons y m ih =>
    have hy := hk y (by simp)
    simp only [Memory.insert]
    rw [List.pairwise_cons] at h
    split
    · rename_i hlt
      refine List.pairwise_cons.2 ⟨fun x hx => ?_, List.pairwise_cons.2 h⟩
      rcases List.mem_cons.1 hx with rfl | hx
      · exact hlt
      · exact Nat.lt_trans hlt (h.1 x hx)
    · refine List.pairwise_cons.2 ⟨fun x hx => ?_, ih (fun x hx => hk x (by simp [hx])) h.2⟩
      rcases (Memory.mem_insert m k v x).1 hx with rfl | hx
      · show y.1 < k; omega
      · exact h.1 x hx

/-- A write inside the 64 KiB keeps the canonical form. -/
theorem Memory.wf_write (m : Memory) (k : Nat) (v : Byte) (hk : k < 65536) (h : Memory.wf m) :
    Memory.wf (Memory.write m k v) := by
  have he : Memory.wf (Memory.erase m k) :=
    ⟨Memory.pairwise_erase m k h.1, fun x hx => h.2 x ((Memory.mem_erase m k x).1 hx).1⟩
  unfold Memory.write
  split
  · exact he
  · rename_i hv
    refine ⟨Memory.pairwise_insert _ k v (fun x hx => ((Memory.mem_erase m k x).1 hx).2) he.1, ?_⟩
    intro x hx
    rcases (Memory.mem_insert _ k v x).1 hx with rfl | hx
    · exact ⟨hk, hv⟩
    · exact he.2 x hx

/-- Loading an image that fits keeps the canonical form. -/
theorem Memory.wf_load (bs : List Byte) (m : Memory) (o : Nat) (ho : o + bs.length ≤ 65536)
    (h : Memory.wf m) : Memory.wf (Memory.load m o bs) := by
  induction bs generalizing m o with
  | nil => exact h
  | cons v bs ih =>
    simp only [List.length_cons] at ho
    exact ih _ _ (by omega) (Memory.wf_write m o v (by omega) h)

/-- A byte read after an image is loaded: the image's byte inside it, the byte before elsewhere. -/
theorem Memory.read_load (bs : List Byte) (m : Memory) (o k : Nat) :
    Memory.read (Memory.load m o bs) k =
      if h : o ≤ k ∧ k < o + bs.length then bs[k - o] else Memory.read m k := by
  induction bs generalizing m o with
  | nil =>
    rw [Memory.load, dif_neg]
    simp only [List.length_nil]
    omega
  | cons v bs ih =>
    rw [Memory.load, ih, Memory.read_write]
    simp only [List.length_cons]
    by_cases h1 : k = o
    · subst h1
      simp
    · by_cases h2 : o + 1 ≤ k ∧ k < o + 1 + bs.length
      · have h3 : k - o = (k - (o + 1)) + 1 := by omega
        rw [dif_pos h2, dif_pos (by omega)]
        simp [h3]
      · rw [dif_neg h2, dif_neg (by omega), if_neg h1]

/-! ### The state's interface -/

/-- A byte read after a byte write (R30, R35). -/
theorem State.readByte_writeByte (s : State) (a b : Word) (v : Byte) :
    (s.writeByte a v).readByte b = if b = a then v else s.readByte b := by
  simp only [State.readByte, State.writeByte, Memory.read_write, BitVec.toNat_inj]

/-- Reading depends on memory alone. -/
theorem State.readByte_congr {s t : State} (h : t.mem = s.mem) (a : Word) :
    t.readByte a = s.readByte a := by
  simp only [State.readByte, h]

/-- A write through the interface keeps the canonical form. -/
theorem State.wf_writeByte (s : State) (a : Word) (v : Byte) (h : Memory.wf s.mem) :
    Memory.wf (s.writeByte a v).mem :=
  Memory.wf_write s.mem a.toNat v a.isLt h

end Sys2Proof.Machine
end

