-- ==== Sys2Proof/Laws/State.lean ====
section
/-! SUPPORT. One lemma per field per update of the state, so that no proof unfolds a record update. -/

namespace Sys2Proof.Machine

/-! ### `advance` -/

@[simp] theorem State.advance_a (s : State) (n : Nat) : (s.advance n).a = s.a := rfl
@[simp] theorem State.advance_b (s : State) (n : Nat) : (s.advance n).b = s.b := rfl
@[simp] theorem State.advance_c (s : State) (n : Nat) : (s.advance n).c = s.c := rfl
@[simp] theorem State.advance_d (s : State) (n : Nat) : (s.advance n).d = s.d := rfl
@[simp] theorem State.advance_e (s : State) (n : Nat) : (s.advance n).e = s.e := rfl
@[simp] theorem State.advance_h (s : State) (n : Nat) : (s.advance n).h = s.h := rfl
@[simp] theorem State.advance_l (s : State) (n : Nat) : (s.advance n).l = s.l := rfl
@[simp] theorem State.advance_pc (s : State) (n : Nat) : (s.advance n).pc = s.pc + BitVec.ofNat 16 n := rfl
@[simp] theorem State.advance_sp (s : State) (n : Nat) : (s.advance n).sp = s.sp := rfl
@[simp] theorem State.advance_flags (s : State) (n : Nat) : (s.advance n).flags = s.flags := rfl
@[simp] theorem State.advance_inte (s : State) (n : Nat) : (s.advance n).inte = s.inte := rfl
@[simp] theorem State.advance_halted (s : State) (n : Nat) : (s.advance n).halted = s.halted := rfl
@[simp] theorem State.advance_unimpl (s : State) (n : Nat) : (s.advance n).unimpl = s.unimpl := rfl
@[simp] theorem State.advance_stub (s : State) (n : Nat) : (s.advance n).stub = s.stub := rfl
@[simp] theorem State.advance_mem (s : State) (n : Nat) : (s.advance n).mem = s.mem := rfl
@[simp] theorem State.advance_params (s : State) (n : Nat) : (s.advance n).params = s.params := rfl
@[simp] theorem State.advance_env (s : State) (n : Nat) : (s.advance n).env = s.env := rfl

/-! ### `goto` -/

@[simp] theorem State.goto_a (s : State) (w : Word) : (s.goto w).a = s.a := rfl
@[simp] theorem State.goto_b (s : State) (w : Word) : (s.goto w).b = s.b := rfl
@[simp] theorem State.goto_c (s : State) (w : Word) : (s.goto w).c = s.c := rfl
@[simp] theorem State.goto_d (s : State) (w : Word) : (s.goto w).d = s.d := rfl
@[simp] theorem State.goto_e (s : State) (w : Word) : (s.goto w).e = s.e := rfl
@[simp] theorem State.goto_h (s : State) (w : Word) : (s.goto w).h = s.h := rfl
@[simp] theorem State.goto_l (s : State) (w : Word) : (s.goto w).l = s.l := rfl
@[simp] theorem State.goto_pc (s : State) (w : Word) : (s.goto w).pc = w := rfl
@[simp] theorem State.goto_sp (s : State) (w : Word) : (s.goto w).sp = s.sp := rfl
@[simp] theorem State.goto_flags (s : State) (w : Word) : (s.goto w).flags = s.flags := rfl
@[simp] theorem State.goto_inte (s : State) (w : Word) : (s.goto w).inte = s.inte := rfl
@[simp] theorem State.goto_halted (s : State) (w : Word) : (s.goto w).halted = s.halted := rfl
@[simp] theorem State.goto_unimpl (s : State) (w : Word) : (s.goto w).unimpl = s.unimpl := rfl
@[simp] theorem State.goto_stub (s : State) (w : Word) : (s.goto w).stub = s.stub := rfl
@[simp] theorem State.goto_mem (s : State) (w : Word) : (s.goto w).mem = s.mem := rfl
@[simp] theorem State.goto_params (s : State) (w : Word) : (s.goto w).params = s.params := rfl
@[simp] theorem State.goto_env (s : State) (w : Word) : (s.goto w).env = s.env := rfl

/-! ### `setSp` -/

@[simp] theorem State.setSp_a (s : State) (w : Word) : (s.setSp w).a = s.a := rfl
@[simp] theorem State.setSp_b (s : State) (w : Word) : (s.setSp w).b = s.b := rfl
@[simp] theorem State.setSp_c (s : State) (w : Word) : (s.setSp w).c = s.c := rfl
@[simp] theorem State.setSp_d (s : State) (w : Word) : (s.setSp w).d = s.d := rfl
@[simp] theorem State.setSp_e (s : State) (w : Word) : (s.setSp w).e = s.e := rfl
@[simp] theorem State.setSp_h (s : State) (w : Word) : (s.setSp w).h = s.h := rfl
@[simp] theorem State.setSp_l (s : State) (w : Word) : (s.setSp w).l = s.l := rfl
@[simp] theorem State.setSp_pc (s : State) (w : Word) : (s.setSp w).pc = s.pc := rfl
@[simp] theorem State.setSp_sp (s : State) (w : Word) : (s.setSp w).sp = w := rfl
@[simp] theorem State.setSp_flags (s : State) (w : Word) : (s.setSp w).flags = s.flags := rfl
@[simp] theorem State.setSp_inte (s : State) (w : Word) : (s.setSp w).inte = s.inte := rfl
@[simp] theorem State.setSp_halted (s : State) (w : Word) : (s.setSp w).halted = s.halted := rfl
@[simp] theorem State.setSp_unimpl (s : State) (w : Word) : (s.setSp w).unimpl = s.unimpl := rfl
@[simp] theorem State.setSp_stub (s : State) (w : Word) : (s.setSp w).stub = s.stub := rfl
@[simp] theorem State.setSp_mem (s : State) (w : Word) : (s.setSp w).mem = s.mem := rfl
@[simp] theorem State.setSp_params (s : State) (w : Word) : (s.setSp w).params = s.params := rfl
@[simp] theorem State.setSp_env (s : State) (w : Word) : (s.setSp w).env = s.env := rfl

/-! ### `setInte` -/

@[simp] theorem State.setInte_a (s : State) (x : Bool) : (s.setInte x).a = s.a := rfl
@[simp] theorem State.setInte_b (s : State) (x : Bool) : (s.setInte x).b = s.b := rfl
@[simp] theorem State.setInte_c (s : State) (x : Bool) : (s.setInte x).c = s.c := rfl
@[simp] theorem State.setInte_d (s : State) (x : Bool) : (s.setInte x).d = s.d := rfl
@[simp] theorem State.setInte_e (s : State) (x : Bool) : (s.setInte x).e = s.e := rfl
@[simp] theorem State.setInte_h (s : State) (x : Bool) : (s.setInte x).h = s.h := rfl
@[simp] theorem State.setInte_l (s : State) (x : Bool) : (s.setInte x).l = s.l := rfl
@[simp] theorem State.setInte_pc (s : State) (x : Bool) : (s.setInte x).pc = s.pc := rfl
@[simp] theorem State.setInte_sp (s : State) (x : Bool) : (s.setInte x).sp = s.sp := rfl
@[simp] theorem State.setInte_flags (s : State) (x : Bool) : (s.setInte x).flags = s.flags := rfl
@[simp] theorem State.setInte_inte (s : State) (x : Bool) : (s.setInte x).inte = x := rfl
@[simp] theorem State.setInte_halted (s : State) (x : Bool) : (s.setInte x).halted = s.halted := rfl
@[simp] theorem State.setInte_unimpl (s : State) (x : Bool) : (s.setInte x).unimpl = s.unimpl := rfl
@[simp] theorem State.setInte_stub (s : State) (x : Bool) : (s.setInte x).stub = s.stub := rfl
@[simp] theorem State.setInte_mem (s : State) (x : Bool) : (s.setInte x).mem = s.mem := rfl
@[simp] theorem State.setInte_params (s : State) (x : Bool) : (s.setInte x).params = s.params := rfl
@[simp] theorem State.setInte_env (s : State) (x : Bool) : (s.setInte x).env = s.env := rfl

/-! ### `setHalted` -/

@[simp] theorem State.setHalted_a (s : State) (x : Bool) : (s.setHalted x).a = s.a := rfl
@[simp] theorem State.setHalted_b (s : State) (x : Bool) : (s.setHalted x).b = s.b := rfl
@[simp] theorem State.setHalted_c (s : State) (x : Bool) : (s.setHalted x).c = s.c := rfl
@[simp] theorem State.setHalted_d (s : State) (x : Bool) : (s.setHalted x).d = s.d := rfl
@[simp] theorem State.setHalted_e (s : State) (x : Bool) : (s.setHalted x).e = s.e := rfl
@[simp] theorem State.setHalted_h (s : State) (x : Bool) : (s.setHalted x).h = s.h := rfl
@[simp] theorem State.setHalted_l (s : State) (x : Bool) : (s.setHalted x).l = s.l := rfl
@[simp] theorem State.setHalted_pc (s : State) (x : Bool) : (s.setHalted x).pc = s.pc := rfl
@[simp] theorem State.setHalted_sp (s : State) (x : Bool) : (s.setHalted x).sp = s.sp := rfl
@[simp] theorem State.setHalted_flags (s : State) (x : Bool) : (s.setHalted x).flags = s.flags := rfl
@[simp] theorem State.setHalted_inte (s : State) (x : Bool) : (s.setHalted x).inte = s.inte := rfl
@[simp] theorem State.setHalted_halted (s : State) (x : Bool) : (s.setHalted x).halted = x := rfl
@[simp] theorem State.setHalted_unimpl (s : State) (x : Bool) : (s.setHalted x).unimpl = s.unimpl := rfl
@[simp] theorem State.setHalted_stub (s : State) (x : Bool) : (s.setHalted x).stub = s.stub := rfl
@[simp] theorem State.setHalted_mem (s : State) (x : Bool) : (s.setHalted x).mem = s.mem := rfl
@[simp] theorem State.setHalted_params (s : State) (x : Bool) : (s.setHalted x).params = s.params := rfl
@[simp] theorem State.setHalted_env (s : State) (x : Bool) : (s.setHalted x).env = s.env := rfl

/-! ### `setUnimpl` -/

@[simp] theorem State.setUnimpl_a (s : State) (x : Bool) : (s.setUnimpl x).a = s.a := rfl
@[simp] theorem State.setUnimpl_b (s : State) (x : Bool) : (s.setUnimpl x).b = s.b := rfl
@[simp] theorem State.setUnimpl_c (s : State) (x : Bool) : (s.setUnimpl x).c = s.c := rfl
@[simp] theorem State.setUnimpl_d (s : State) (x : Bool) : (s.setUnimpl x).d = s.d := rfl
@[simp] theorem State.setUnimpl_e (s : State) (x : Bool) : (s.setUnimpl x).e = s.e := rfl
@[simp] theorem State.setUnimpl_h (s : State) (x : Bool) : (s.setUnimpl x).h = s.h := rfl
@[simp] theorem State.setUnimpl_l (s : State) (x : Bool) : (s.setUnimpl x).l = s.l := rfl
@[simp] theorem State.setUnimpl_pc (s : State) (x : Bool) : (s.setUnimpl x).pc = s.pc := rfl
@[simp] theorem State.setUnimpl_sp (s : State) (x : Bool) : (s.setUnimpl x).sp = s.sp := rfl
@[simp] theorem State.setUnimpl_flags (s : State) (x : Bool) : (s.setUnimpl x).flags = s.flags := rfl
@[simp] theorem State.setUnimpl_inte (s : State) (x : Bool) : (s.setUnimpl x).inte = s.inte := rfl
@[simp] theorem State.setUnimpl_halted (s : State) (x : Bool) : (s.setUnimpl x).halted = s.halted := rfl
@[simp] theorem State.setUnimpl_unimpl (s : State) (x : Bool) : (s.setUnimpl x).unimpl = x := rfl
@[simp] theorem State.setUnimpl_stub (s : State) (x : Bool) : (s.setUnimpl x).stub = s.stub := rfl
@[simp] theorem State.setUnimpl_mem (s : State) (x : Bool) : (s.setUnimpl x).mem = s.mem := rfl
@[simp] theorem State.setUnimpl_params (s : State) (x : Bool) : (s.setUnimpl x).params = s.params := rfl
@[simp] theorem State.setUnimpl_env (s : State) (x : Bool) : (s.setUnimpl x).env = s.env := rfl

/-! ### `setStub` -/

@[simp] theorem State.setStub_a (s : State) (x : Bool) : (s.setStub x).a = s.a := rfl
@[simp] theorem State.setStub_b (s : State) (x : Bool) : (s.setStub x).b = s.b := rfl
@[simp] theorem State.setStub_c (s : State) (x : Bool) : (s.setStub x).c = s.c := rfl
@[simp] theorem State.setStub_d (s : State) (x : Bool) : (s.setStub x).d = s.d := rfl
@[simp] theorem State.setStub_e (s : State) (x : Bool) : (s.setStub x).e = s.e := rfl
@[simp] theorem State.setStub_h (s : State) (x : Bool) : (s.setStub x).h = s.h := rfl
@[simp] theorem State.setStub_l (s : State) (x : Bool) : (s.setStub x).l = s.l := rfl
@[simp] theorem State.setStub_pc (s : State) (x : Bool) : (s.setStub x).pc = s.pc := rfl
@[simp] theorem State.setStub_sp (s : State) (x : Bool) : (s.setStub x).sp = s.sp := rfl
@[simp] theorem State.setStub_flags (s : State) (x : Bool) : (s.setStub x).flags = s.flags := rfl
@[simp] theorem State.setStub_inte (s : State) (x : Bool) : (s.setStub x).inte = s.inte := rfl
@[simp] theorem State.setStub_halted (s : State) (x : Bool) : (s.setStub x).halted = s.halted := rfl
@[simp] theorem State.setStub_unimpl (s : State) (x : Bool) : (s.setStub x).unimpl = s.unimpl := rfl
@[simp] theorem State.setStub_stub (s : State) (x : Bool) : (s.setStub x).stub = x := rfl
@[simp] theorem State.setStub_mem (s : State) (x : Bool) : (s.setStub x).mem = s.mem := rfl
@[simp] theorem State.setStub_params (s : State) (x : Bool) : (s.setStub x).params = s.params := rfl
@[simp] theorem State.setStub_env (s : State) (x : Bool) : (s.setStub x).env = s.env := rfl

/-! ### `setFlags` -/

@[simp] theorem State.setFlags_a (s : State) (f : Flags) : (s.setFlags f).a = s.a := rfl
@[simp] theorem State.setFlags_b (s : State) (f : Flags) : (s.setFlags f).b = s.b := rfl
@[simp] theorem State.setFlags_c (s : State) (f : Flags) : (s.setFlags f).c = s.c := rfl
@[simp] theorem State.setFlags_d (s : State) (f : Flags) : (s.setFlags f).d = s.d := rfl
@[simp] theorem State.setFlags_e (s : State) (f : Flags) : (s.setFlags f).e = s.e := rfl
@[simp] theorem State.setFlags_h (s : State) (f : Flags) : (s.setFlags f).h = s.h := rfl
@[simp] theorem State.setFlags_l (s : State) (f : Flags) : (s.setFlags f).l = s.l := rfl
@[simp] theorem State.setFlags_pc (s : State) (f : Flags) : (s.setFlags f).pc = s.pc := rfl
@[simp] theorem State.setFlags_sp (s : State) (f : Flags) : (s.setFlags f).sp = s.sp := rfl
@[simp] theorem State.setFlags_flags (s : State) (f : Flags) : (s.setFlags f).flags = f := rfl
@[simp] theorem State.setFlags_inte (s : State) (f : Flags) : (s.setFlags f).inte = s.inte := rfl
@[simp] theorem State.setFlags_halted (s : State) (f : Flags) : (s.setFlags f).halted = s.halted := rfl
@[simp] theorem State.setFlags_unimpl (s : State) (f : Flags) : (s.setFlags f).unimpl = s.unimpl := rfl
@[simp] theorem State.setFlags_stub (s : State) (f : Flags) : (s.setFlags f).stub = s.stub := rfl
@[simp] theorem State.setFlags_mem (s : State) (f : Flags) : (s.setFlags f).mem = s.mem := rfl
@[simp] theorem State.setFlags_params (s : State) (f : Flags) : (s.setFlags f).params = s.params := rfl
@[simp] theorem State.setFlags_env (s : State) (f : Flags) : (s.setFlags f).env = s.env := rfl

/-! ### `setAlu` -/

@[simp] theorem State.setAlu_a (s : State) (r : Alu) : (s.setAlu r).a = r.value := rfl
@[simp] theorem State.setAlu_b (s : State) (r : Alu) : (s.setAlu r).b = s.b := rfl
@[simp] theorem State.setAlu_c (s : State) (r : Alu) : (s.setAlu r).c = s.c := rfl
@[simp] theorem State.setAlu_d (s : State) (r : Alu) : (s.setAlu r).d = s.d := rfl
@[simp] theorem State.setAlu_e (s : State) (r : Alu) : (s.setAlu r).e = s.e := rfl
@[simp] theorem State.setAlu_h (s : State) (r : Alu) : (s.setAlu r).h = s.h := rfl
@[simp] theorem State.setAlu_l (s : State) (r : Alu) : (s.setAlu r).l = s.l := rfl
@[simp] theorem State.setAlu_pc (s : State) (r : Alu) : (s.setAlu r).pc = s.pc := rfl
@[simp] theorem State.setAlu_sp (s : State) (r : Alu) : (s.setAlu r).sp = s.sp := rfl
@[simp] theorem State.setAlu_flags (s : State) (r : Alu) : (s.setAlu r).flags = r.flags := rfl
@[simp] theorem State.setAlu_inte (s : State) (r : Alu) : (s.setAlu r).inte = s.inte := rfl
@[simp] theorem State.setAlu_halted (s : State) (r : Alu) : (s.setAlu r).halted = s.halted := rfl
@[simp] theorem State.setAlu_unimpl (s : State) (r : Alu) : (s.setAlu r).unimpl = s.unimpl := rfl
@[simp] theorem State.setAlu_stub (s : State) (r : Alu) : (s.setAlu r).stub = s.stub := rfl
@[simp] theorem State.setAlu_mem (s : State) (r : Alu) : (s.setAlu r).mem = s.mem := rfl
@[simp] theorem State.setAlu_params (s : State) (r : Alu) : (s.setAlu r).params = s.params := rfl
@[simp] theorem State.setAlu_env (s : State) (r : Alu) : (s.setAlu r).env = s.env := rfl

/-! ### `writeByte` -/

@[simp] theorem State.writeByte_a (s : State) (k : Word) (v : Byte) : (s.writeByte k v).a = s.a := rfl
@[simp] theorem State.writeByte_b (s : State) (k : Word) (v : Byte) : (s.writeByte k v).b = s.b := rfl
@[simp] theorem State.writeByte_c (s : State) (k : Word) (v : Byte) : (s.writeByte k v).c = s.c := rfl
@[simp] theorem State.writeByte_d (s : State) (k : Word) (v : Byte) : (s.writeByte k v).d = s.d := rfl
@[simp] theorem State.writeByte_e (s : State) (k : Word) (v : Byte) : (s.writeByte k v).e = s.e := rfl
@[simp] theorem State.writeByte_h (s : State) (k : Word) (v : Byte) : (s.writeByte k v).h = s.h := rfl
@[simp] theorem State.writeByte_l (s : State) (k : Word) (v : Byte) : (s.writeByte k v).l = s.l := rfl
@[simp] theorem State.writeByte_pc (s : State) (k : Word) (v : Byte) : (s.writeByte k v).pc = s.pc := rfl
@[simp] theorem State.writeByte_sp (s : State) (k : Word) (v : Byte) : (s.writeByte k v).sp = s.sp := rfl
@[simp] theorem State.writeByte_flags (s : State) (k : Word) (v : Byte) : (s.writeByte k v).flags = s.flags := rfl
@[simp] theorem State.writeByte_inte (s : State) (k : Word) (v : Byte) : (s.writeByte k v).inte = s.inte := rfl
@[simp] theorem State.writeByte_halted (s : State) (k : Word) (v : Byte) : (s.writeByte k v).halted = s.halted := rfl
@[simp] theorem State.writeByte_unimpl (s : State) (k : Word) (v : Byte) : (s.writeByte k v).unimpl = s.unimpl := rfl
@[simp] theorem State.writeByte_stub (s : State) (k : Word) (v : Byte) : (s.writeByte k v).stub = s.stub := rfl
@[simp] theorem State.writeByte_mem (s : State) (k : Word) (v : Byte) : (s.writeByte k v).mem = Memory.write s.mem k.toNat v := rfl
@[simp] theorem State.writeByte_params (s : State) (k : Word) (v : Byte) : (s.writeByte k v).params = s.params := rfl
@[simp] theorem State.writeByte_env (s : State) (k : Word) (v : Byte) : (s.writeByte k v).env = s.env := rfl

/-! ### `writeM` -/

@[simp] theorem State.writeM_a (s : State) (v : Byte) : (s.writeM v).a = s.a := by simp [State.writeM]
@[simp] theorem State.writeM_b (s : State) (v : Byte) : (s.writeM v).b = s.b := by simp [State.writeM]
@[simp] theorem State.writeM_c (s : State) (v : Byte) : (s.writeM v).c = s.c := by simp [State.writeM]
@[simp] theorem State.writeM_d (s : State) (v : Byte) : (s.writeM v).d = s.d := by simp [State.writeM]
@[simp] theorem State.writeM_e (s : State) (v : Byte) : (s.writeM v).e = s.e := by simp [State.writeM]
@[simp] theorem State.writeM_h (s : State) (v : Byte) : (s.writeM v).h = s.h := by simp [State.writeM]
@[simp] theorem State.writeM_l (s : State) (v : Byte) : (s.writeM v).l = s.l := by simp [State.writeM]
@[simp] theorem State.writeM_pc (s : State) (v : Byte) : (s.writeM v).pc = s.pc := by simp [State.writeM]
@[simp] theorem State.writeM_sp (s : State) (v : Byte) : (s.writeM v).sp = s.sp := by simp [State.writeM]
@[simp] theorem State.writeM_flags (s : State) (v : Byte) : (s.writeM v).flags = s.flags := by simp [State.writeM]
@[simp] theorem State.writeM_inte (s : State) (v : Byte) : (s.writeM v).inte = s.inte := by simp [State.writeM]
@[simp] theorem State.writeM_halted (s : State) (v : Byte) : (s.writeM v).halted = s.halted := by simp [State.writeM]
@[simp] theorem State.writeM_unimpl (s : State) (v : Byte) : (s.writeM v).unimpl = s.unimpl := by simp [State.writeM]
@[simp] theorem State.writeM_stub (s : State) (v : Byte) : (s.writeM v).stub = s.stub := by simp [State.writeM]
@[simp] theorem State.writeM_mem (s : State) (v : Byte) : (s.writeM v).mem = Memory.write s.mem (s.pair .HL).toNat v := by simp [State.writeM]
@[simp] theorem State.writeM_params (s : State) (v : Byte) : (s.writeM v).params = s.params := by simp [State.writeM]
@[simp] theorem State.writeM_env (s : State) (v : Byte) : (s.writeM v).env = s.env := by simp [State.writeM]

/-! ### `writeWord` -/

@[simp] theorem State.writeWord_a (s : State) (k w : Word) : (s.writeWord k w).a = s.a := by simp [State.writeWord]
@[simp] theorem State.writeWord_b (s : State) (k w : Word) : (s.writeWord k w).b = s.b := by simp [State.writeWord]
@[simp] theorem State.writeWord_c (s : State) (k w : Word) : (s.writeWord k w).c = s.c := by simp [State.writeWord]
@[simp] theorem State.writeWord_d (s : State) (k w : Word) : (s.writeWord k w).d = s.d := by simp [State.writeWord]
@[simp] theorem State.writeWord_e (s : State) (k w : Word) : (s.writeWord k w).e = s.e := by simp [State.writeWord]
@[simp] theorem State.writeWord_h (s : State) (k w : Word) : (s.writeWord k w).h = s.h := by simp [State.writeWord]
@[simp] theorem State.writeWord_l (s : State) (k w : Word) : (s.writeWord k w).l = s.l := by simp [State.writeWord]
@[simp] theorem State.writeWord_pc (s : State) (k w : Word) : (s.writeWord k w).pc = s.pc := by simp [State.writeWord]
@[simp] theorem State.writeWord_sp (s : State) (k w : Word) : (s.writeWord k w).sp = s.sp := by simp [State.writeWord]
@[simp] theorem State.writeWord_flags (s : State) (k w : Word) : (s.writeWord k w).flags = s.flags := by simp [State.writeWord]
@[simp] theorem State.writeWord_inte (s : State) (k w : Word) : (s.writeWord k w).inte = s.inte := by simp [State.writeWord]
@[simp] theorem State.writeWord_halted (s : State) (k w : Word) : (s.writeWord k w).halted = s.halted := by simp [State.writeWord]
@[simp] theorem State.writeWord_unimpl (s : State) (k w : Word) : (s.writeWord k w).unimpl = s.unimpl := by simp [State.writeWord]
@[simp] theorem State.writeWord_stub (s : State) (k w : Word) : (s.writeWord k w).stub = s.stub := by simp [State.writeWord]
@[simp] theorem State.writeWord_mem (s : State) (k w : Word) : (s.writeWord k w).mem = Memory.write (Memory.write s.mem k.toNat (loByte w)) (k + 1).toNat (hiByte w) := by simp [State.writeWord]
@[simp] theorem State.writeWord_params (s : State) (k w : Word) : (s.writeWord k w).params = s.params := by simp [State.writeWord]
@[simp] theorem State.writeWord_env (s : State) (k w : Word) : (s.writeWord k w).env = s.env := by simp [State.writeWord]

/-! ### `push` -/

@[simp] theorem State.push_a (s : State) (w : Word) : (s.push w).a = s.a := by simp [State.push]
@[simp] theorem State.push_b (s : State) (w : Word) : (s.push w).b = s.b := by simp [State.push]
@[simp] theorem State.push_c (s : State) (w : Word) : (s.push w).c = s.c := by simp [State.push]
@[simp] theorem State.push_d (s : State) (w : Word) : (s.push w).d = s.d := by simp [State.push]
@[simp] theorem State.push_e (s : State) (w : Word) : (s.push w).e = s.e := by simp [State.push]
@[simp] theorem State.push_h (s : State) (w : Word) : (s.push w).h = s.h := by simp [State.push]
@[simp] theorem State.push_l (s : State) (w : Word) : (s.push w).l = s.l := by simp [State.push]
@[simp] theorem State.push_pc (s : State) (w : Word) : (s.push w).pc = s.pc := by simp [State.push]
@[simp] theorem State.push_sp (s : State) (w : Word) : (s.push w).sp = s.sp - 2 := by simp [State.push]
@[simp] theorem State.push_flags (s : State) (w : Word) : (s.push w).flags = s.flags := by simp [State.push]
@[simp] theorem State.push_inte (s : State) (w : Word) : (s.push w).inte = s.inte := by simp [State.push]
@[simp] theorem State.push_halted (s : State) (w : Word) : (s.push w).halted = s.halted := by simp [State.push]
@[simp] theorem State.push_unimpl (s : State) (w : Word) : (s.push w).unimpl = s.unimpl := by simp [State.push]
@[simp] theorem State.push_stub (s : State) (w : Word) : (s.push w).stub = s.stub := by simp [State.push]
@[simp] theorem State.push_mem (s : State) (w : Word) : (s.push w).mem = Memory.write (Memory.write s.mem (s.sp - 1).toNat (hiByte w)) (s.sp - 2).toNat (loByte w) := by simp [State.push]
@[simp] theorem State.push_params (s : State) (w : Word) : (s.push w).params = s.params := by simp [State.push]
@[simp] theorem State.push_env (s : State) (w : Word) : (s.push w).env = s.env := by simp [State.push]

/-! ### `drop` -/

@[simp] theorem State.drop_a (s : State) : (s.drop).a = s.a := by simp [State.drop]
@[simp] theorem State.drop_b (s : State) : (s.drop).b = s.b := by simp [State.drop]
@[simp] theorem State.drop_c (s : State) : (s.drop).c = s.c := by simp [State.drop]
@[simp] theorem State.drop_d (s : State) : (s.drop).d = s.d := by simp [State.drop]
@[simp] theorem State.drop_e (s : State) : (s.drop).e = s.e := by simp [State.drop]
@[simp] theorem State.drop_h (s : State) : (s.drop).h = s.h := by simp [State.drop]
@[simp] theorem State.drop_l (s : State) : (s.drop).l = s.l := by simp [State.drop]
@[simp] theorem State.drop_pc (s : State) : (s.drop).pc = s.pc := by simp [State.drop]
@[simp] theorem State.drop_sp (s : State) : (s.drop).sp = s.sp + 2 := by simp [State.drop]
@[simp] theorem State.drop_flags (s : State) : (s.drop).flags = s.flags := by simp [State.drop]
@[simp] theorem State.drop_inte (s : State) : (s.drop).inte = s.inte := by simp [State.drop]
@[simp] theorem State.drop_halted (s : State) : (s.drop).halted = s.halted := by simp [State.drop]
@[simp] theorem State.drop_unimpl (s : State) : (s.drop).unimpl = s.unimpl := by simp [State.drop]
@[simp] theorem State.drop_stub (s : State) : (s.drop).stub = s.stub := by simp [State.drop]
@[simp] theorem State.drop_mem (s : State) : (s.drop).mem = s.mem := by simp [State.drop]
@[simp] theorem State.drop_params (s : State) : (s.drop).params = s.params := by simp [State.drop]
@[simp] theorem State.drop_env (s : State) : (s.drop).env = s.env := by simp [State.drop]

/-! ### `enter` -/

@[simp] theorem State.enter_a (s : State) (r w : Word) : (s.enter r w).a = s.a := by simp [State.enter]
@[simp] theorem State.enter_b (s : State) (r w : Word) : (s.enter r w).b = s.b := by simp [State.enter]
@[simp] theorem State.enter_c (s : State) (r w : Word) : (s.enter r w).c = s.c := by simp [State.enter]
@[simp] theorem State.enter_d (s : State) (r w : Word) : (s.enter r w).d = s.d := by simp [State.enter]
@[simp] theorem State.enter_e (s : State) (r w : Word) : (s.enter r w).e = s.e := by simp [State.enter]
@[simp] theorem State.enter_h (s : State) (r w : Word) : (s.enter r w).h = s.h := by simp [State.enter]
@[simp] theorem State.enter_l (s : State) (r w : Word) : (s.enter r w).l = s.l := by simp [State.enter]
@[simp] theorem State.enter_pc (s : State) (r w : Word) : (s.enter r w).pc = w := by simp [State.enter]
@[simp] theorem State.enter_sp (s : State) (r w : Word) : (s.enter r w).sp = s.sp - 2 := by simp [State.enter]
@[simp] theorem State.enter_flags (s : State) (r w : Word) : (s.enter r w).flags = s.flags := by simp [State.enter]
@[simp] theorem State.enter_inte (s : State) (r w : Word) : (s.enter r w).inte = s.inte := by simp [State.enter]
@[simp] theorem State.enter_halted (s : State) (r w : Word) : (s.enter r w).halted = s.halted := by simp [State.enter]
@[simp] theorem State.enter_unimpl (s : State) (r w : Word) : (s.enter r w).unimpl = s.unimpl := by simp [State.enter]
@[simp] theorem State.enter_stub (s : State) (r w : Word) : (s.enter r w).stub = s.stub := by simp [State.enter]
@[simp] theorem State.enter_mem (s : State) (r w : Word) : (s.enter r w).mem = Memory.write (Memory.write s.mem (s.sp - 1).toNat (hiByte r)) (s.sp - 2).toNat (loByte r) := by simp [State.enter]
@[simp] theorem State.enter_params (s : State) (r w : Word) : (s.enter r w).params = s.params := by simp [State.enter]
@[simp] theorem State.enter_env (s : State) (r w : Word) : (s.enter r w).env = s.env := by simp [State.enter]

/-! ### `leave` -/

@[simp] theorem State.leave_a (s : State) : (s.leave).a = s.a := by simp [State.leave]
@[simp] theorem State.leave_b (s : State) : (s.leave).b = s.b := by simp [State.leave]
@[simp] theorem State.leave_c (s : State) : (s.leave).c = s.c := by simp [State.leave]
@[simp] theorem State.leave_d (s : State) : (s.leave).d = s.d := by simp [State.leave]
@[simp] theorem State.leave_e (s : State) : (s.leave).e = s.e := by simp [State.leave]
@[simp] theorem State.leave_h (s : State) : (s.leave).h = s.h := by simp [State.leave]
@[simp] theorem State.leave_l (s : State) : (s.leave).l = s.l := by simp [State.leave]
@[simp] theorem State.leave_pc (s : State) : (s.leave).pc = s.top := by simp [State.leave]
@[simp] theorem State.leave_sp (s : State) : (s.leave).sp = s.sp + 2 := by simp [State.leave]
@[simp] theorem State.leave_flags (s : State) : (s.leave).flags = s.flags := by simp [State.leave]
@[simp] theorem State.leave_inte (s : State) : (s.leave).inte = s.inte := by simp [State.leave]
@[simp] theorem State.leave_halted (s : State) : (s.leave).halted = s.halted := by simp [State.leave]
@[simp] theorem State.leave_unimpl (s : State) : (s.leave).unimpl = s.unimpl := by simp [State.leave]
@[simp] theorem State.leave_stub (s : State) : (s.leave).stub = s.stub := by simp [State.leave]
@[simp] theorem State.leave_mem (s : State) : (s.leave).mem = s.mem := by simp [State.leave]
@[simp] theorem State.leave_params (s : State) : (s.leave).params = s.params := by simp [State.leave]
@[simp] theorem State.leave_env (s : State) : (s.leave).env = s.env := by simp [State.leave]

/-! ### `reportUnimpl` -/

@[simp] theorem State.reportUnimpl_a (s : State) : (s.reportUnimpl).a = s.a := by simp [State.reportUnimpl]
@[simp] theorem State.reportUnimpl_b (s : State) : (s.reportUnimpl).b = s.b := by simp [State.reportUnimpl]
@[simp] theorem State.reportUnimpl_c (s : State) : (s.reportUnimpl).c = s.c := by simp [State.reportUnimpl]
@[simp] theorem State.reportUnimpl_d (s : State) : (s.reportUnimpl).d = s.d := by simp [State.reportUnimpl]
@[simp] theorem State.reportUnimpl_e (s : State) : (s.reportUnimpl).e = s.e := by simp [State.reportUnimpl]
@[simp] theorem State.reportUnimpl_h (s : State) : (s.reportUnimpl).h = s.h := by simp [State.reportUnimpl]
@[simp] theorem State.reportUnimpl_l (s : State) : (s.reportUnimpl).l = s.l := by simp [State.reportUnimpl]
@[simp] theorem State.reportUnimpl_pc (s : State) : (s.reportUnimpl).pc = s.pc + 1 := by simp [State.reportUnimpl]
@[simp] theorem State.reportUnimpl_sp (s : State) : (s.reportUnimpl).sp = s.sp := by simp [State.reportUnimpl]
@[simp] theorem State.reportUnimpl_flags (s : State) : (s.reportUnimpl).flags = s.flags := by simp [State.reportUnimpl]
@[simp] theorem State.reportUnimpl_inte (s : State) : (s.reportUnimpl).inte = s.inte := by simp [State.reportUnimpl]
@[simp] theorem State.reportUnimpl_halted (s : State) : (s.reportUnimpl).halted = s.halted := by simp [State.reportUnimpl]
@[simp] theorem State.reportUnimpl_unimpl (s : State) : (s.reportUnimpl).unimpl = true := by simp [State.reportUnimpl]
@[simp] theorem State.reportUnimpl_stub (s : State) : (s.reportUnimpl).stub = s.stub := by simp [State.reportUnimpl]
@[simp] theorem State.reportUnimpl_mem (s : State) : (s.reportUnimpl).mem = s.mem := by simp [State.reportUnimpl]
@[simp] theorem State.reportUnimpl_params (s : State) : (s.reportUnimpl).params = s.params := by simp [State.reportUnimpl]
@[simp] theorem State.reportUnimpl_env (s : State) : (s.reportUnimpl).env = s.env := by simp [State.reportUnimpl]

/-! ### `withTurns` -/

@[simp] theorem State.withTurns_a (s : State) (ts : List Turn) : (s.withTurns ts).a = s.a := rfl
@[simp] theorem State.withTurns_b (s : State) (ts : List Turn) : (s.withTurns ts).b = s.b := rfl
@[simp] theorem State.withTurns_c (s : State) (ts : List Turn) : (s.withTurns ts).c = s.c := rfl
@[simp] theorem State.withTurns_d (s : State) (ts : List Turn) : (s.withTurns ts).d = s.d := rfl
@[simp] theorem State.withTurns_e (s : State) (ts : List Turn) : (s.withTurns ts).e = s.e := rfl
@[simp] theorem State.withTurns_h (s : State) (ts : List Turn) : (s.withTurns ts).h = s.h := rfl
@[simp] theorem State.withTurns_l (s : State) (ts : List Turn) : (s.withTurns ts).l = s.l := rfl
@[simp] theorem State.withTurns_pc (s : State) (ts : List Turn) : (s.withTurns ts).pc = s.pc := rfl
@[simp] theorem State.withTurns_sp (s : State) (ts : List Turn) : (s.withTurns ts).sp = s.sp := rfl
@[simp] theorem State.withTurns_flags (s : State) (ts : List Turn) : (s.withTurns ts).flags = s.flags := rfl
@[simp] theorem State.withTurns_inte (s : State) (ts : List Turn) : (s.withTurns ts).inte = s.inte := rfl
@[simp] theorem State.withTurns_halted (s : State) (ts : List Turn) : (s.withTurns ts).halted = s.halted := rfl
@[simp] theorem State.withTurns_unimpl (s : State) (ts : List Turn) : (s.withTurns ts).unimpl = s.unimpl := rfl
@[simp] theorem State.withTurns_stub (s : State) (ts : List Turn) : (s.withTurns ts).stub = s.stub := rfl
@[simp] theorem State.withTurns_mem (s : State) (ts : List Turn) : (s.withTurns ts).mem = s.mem := rfl
@[simp] theorem State.withTurns_params (s : State) (ts : List Turn) : (s.withTurns ts).params = s.params := rfl
@[simp] theorem State.withTurns_env (s : State) (ts : List Turn) : (s.withTurns ts).env = { s.env with turns := ts } := rfl

/-! ### `setReg` -/

@[simp] theorem State.setReg_pc (s : State) (r : Reg) (v : Byte) : (s.setReg r v).pc = s.pc := by cases r <;> rfl
@[simp] theorem State.setReg_sp (s : State) (r : Reg) (v : Byte) : (s.setReg r v).sp = s.sp := by cases r <;> rfl
@[simp] theorem State.setReg_flags (s : State) (r : Reg) (v : Byte) : (s.setReg r v).flags = s.flags := by cases r <;> rfl
@[simp] theorem State.setReg_inte (s : State) (r : Reg) (v : Byte) : (s.setReg r v).inte = s.inte := by cases r <;> rfl
@[simp] theorem State.setReg_halted (s : State) (r : Reg) (v : Byte) : (s.setReg r v).halted = s.halted := by cases r <;> rfl
@[simp] theorem State.setReg_unimpl (s : State) (r : Reg) (v : Byte) : (s.setReg r v).unimpl = s.unimpl := by cases r <;> rfl
@[simp] theorem State.setReg_stub (s : State) (r : Reg) (v : Byte) : (s.setReg r v).stub = s.stub := by cases r <;> rfl
@[simp] theorem State.setReg_mem (s : State) (r : Reg) (v : Byte) : (s.setReg r v).mem = s.mem := by cases r <;> rfl
@[simp] theorem State.setReg_params (s : State) (r : Reg) (v : Byte) : (s.setReg r v).params = s.params := by cases r <;> rfl
@[simp] theorem State.setReg_env (s : State) (r : Reg) (v : Byte) : (s.setReg r v).env = s.env := by cases r <;> rfl

/-! ### `setPair` -/

@[simp] theorem State.setPair_pc (s : State) (rp : RegPair) (w : Word) : (s.setPair rp w).pc = s.pc := by cases rp <;> rfl
@[simp] theorem State.setPair_sp (s : State) (rp : RegPair) (w : Word) : (s.setPair rp w).sp = if rp = .SP then w else s.sp := by cases rp <;> rfl
@[simp] theorem State.setPair_flags (s : State) (rp : RegPair) (w : Word) : (s.setPair rp w).flags = s.flags := by cases rp <;> rfl
@[simp] theorem State.setPair_inte (s : State) (rp : RegPair) (w : Word) : (s.setPair rp w).inte = s.inte := by cases rp <;> rfl
@[simp] theorem State.setPair_halted (s : State) (rp : RegPair) (w : Word) : (s.setPair rp w).halted = s.halted := by cases rp <;> rfl
@[simp] theorem State.setPair_unimpl (s : State) (rp : RegPair) (w : Word) : (s.setPair rp w).unimpl = s.unimpl := by cases rp <;> rfl
@[simp] theorem State.setPair_stub (s : State) (rp : RegPair) (w : Word) : (s.setPair rp w).stub = s.stub := by cases rp <;> rfl
@[simp] theorem State.setPair_mem (s : State) (rp : RegPair) (w : Word) : (s.setPair rp w).mem = s.mem := by cases rp <;> rfl
@[simp] theorem State.setPair_params (s : State) (rp : RegPair) (w : Word) : (s.setPair rp w).params = s.params := by cases rp <;> rfl
@[simp] theorem State.setPair_env (s : State) (rp : RegPair) (w : Word) : (s.setPair rp w).env = s.env := by cases rp <;> rfl

/-! ### `callTo` -/

@[simp] theorem State.callTo_a (s : State) (w : Word) : (s.callTo w).a = s.a := by simp [State.callTo]
@[simp] theorem State.callTo_b (s : State) (w : Word) : (s.callTo w).b = s.b := by simp [State.callTo]
@[simp] theorem State.callTo_c (s : State) (w : Word) : (s.callTo w).c = s.c := by simp [State.callTo]
@[simp] theorem State.callTo_d (s : State) (w : Word) : (s.callTo w).d = s.d := by simp [State.callTo]
@[simp] theorem State.callTo_e (s : State) (w : Word) : (s.callTo w).e = s.e := by simp [State.callTo]
@[simp] theorem State.callTo_h (s : State) (w : Word) : (s.callTo w).h = s.h := by simp [State.callTo]
@[simp] theorem State.callTo_l (s : State) (w : Word) : (s.callTo w).l = s.l := by simp [State.callTo]
@[simp] theorem State.callTo_pc (s : State) (w : Word) : (s.callTo w).pc = w := by simp [State.callTo]
@[simp] theorem State.callTo_sp (s : State) (w : Word) : (s.callTo w).sp = s.sp - 2 := by simp [State.callTo]
@[simp] theorem State.callTo_flags (s : State) (w : Word) : (s.callTo w).flags = s.flags := by simp [State.callTo]
@[simp] theorem State.callTo_inte (s : State) (w : Word) : (s.callTo w).inte = s.inte := by simp [State.callTo]
@[simp] theorem State.callTo_halted (s : State) (w : Word) : (s.callTo w).halted = s.halted := by simp [State.callTo]
@[simp] theorem State.callTo_unimpl (s : State) (w : Word) : (s.callTo w).unimpl = s.unimpl := by simp [State.callTo]
@[simp] theorem State.callTo_stub (s : State) (w : Word) : (s.callTo w).stub = s.stub := by simp [State.callTo]
@[simp] theorem State.callTo_mem (s : State) (w : Word) : (s.callTo w).mem = (s.push (s.pc + 3)).mem := by simp [State.callTo]
@[simp] theorem State.callTo_params (s : State) (w : Word) : (s.callTo w).params = s.params := by simp [State.callTo]
@[simp] theorem State.callTo_env (s : State) (w : Word) : (s.callTo w).env = s.env := by simp [State.callTo]

/-! ### `jumpIf` -/

@[simp] theorem State.jumpIf_a (s : State) (cd : Cond) (w : Word) : (s.jumpIf cd w).a = s.a := by unfold State.jumpIf; split <;> simp [*]
@[simp] theorem State.jumpIf_b (s : State) (cd : Cond) (w : Word) : (s.jumpIf cd w).b = s.b := by unfold State.jumpIf; split <;> simp [*]
@[simp] theorem State.jumpIf_c (s : State) (cd : Cond) (w : Word) : (s.jumpIf cd w).c = s.c := by unfold State.jumpIf; split <;> simp [*]
@[simp] theorem State.jumpIf_d (s : State) (cd : Cond) (w : Word) : (s.jumpIf cd w).d = s.d := by unfold State.jumpIf; split <;> simp [*]
@[simp] theorem State.jumpIf_e (s : State) (cd : Cond) (w : Word) : (s.jumpIf cd w).e = s.e := by unfold State.jumpIf; split <;> simp [*]
@[simp] theorem State.jumpIf_h (s : State) (cd : Cond) (w : Word) : (s.jumpIf cd w).h = s.h := by unfold State.jumpIf; split <;> simp [*]
@[simp] theorem State.jumpIf_l (s : State) (cd : Cond) (w : Word) : (s.jumpIf cd w).l = s.l := by unfold State.jumpIf; split <;> simp [*]
@[simp] theorem State.jumpIf_pc (s : State) (cd : Cond) (w : Word) : (s.jumpIf cd w).pc = if s.flags.satisfies cd then w else s.pc + 3 := by unfold State.jumpIf; split <;> simp [*]
@[simp] theorem State.jumpIf_sp (s : State) (cd : Cond) (w : Word) : (s.jumpIf cd w).sp = s.sp := by unfold State.jumpIf; split <;> simp [*]
@[simp] theorem State.jumpIf_flags (s : State) (cd : Cond) (w : Word) : (s.jumpIf cd w).flags = s.flags := by unfold State.jumpIf; split <;> simp [*]
@[simp] theorem State.jumpIf_inte (s : State) (cd : Cond) (w : Word) : (s.jumpIf cd w).inte = s.inte := by unfold State.jumpIf; split <;> simp [*]
@[simp] theorem State.jumpIf_halted (s : State) (cd : Cond) (w : Word) : (s.jumpIf cd w).halted = s.halted := by unfold State.jumpIf; split <;> simp [*]
@[simp] theorem State.jumpIf_unimpl (s : State) (cd : Cond) (w : Word) : (s.jumpIf cd w).unimpl = s.unimpl := by unfold State.jumpIf; split <;> simp [*]
@[simp] theorem State.jumpIf_stub (s : State) (cd : Cond) (w : Word) : (s.jumpIf cd w).stub = s.stub := by unfold State.jumpIf; split <;> simp [*]
@[simp] theorem State.jumpIf_mem (s : State) (cd : Cond) (w : Word) : (s.jumpIf cd w).mem = s.mem := by unfold State.jumpIf; split <;> simp [*]
@[simp] theorem State.jumpIf_params (s : State) (cd : Cond) (w : Word) : (s.jumpIf cd w).params = s.params := by unfold State.jumpIf; split <;> simp [*]
@[simp] theorem State.jumpIf_env (s : State) (cd : Cond) (w : Word) : (s.jumpIf cd w).env = s.env := by unfold State.jumpIf; split <;> simp [*]

/-! ### `callIf` -/

@[simp] theorem State.callIf_a (s : State) (cd : Cond) (w : Word) : (s.callIf cd w).a = s.a := by unfold State.callIf; split <;> simp [*]
@[simp] theorem State.callIf_b (s : State) (cd : Cond) (w : Word) : (s.callIf cd w).b = s.b := by unfold State.callIf; split <;> simp [*]
@[simp] theorem State.callIf_c (s : State) (cd : Cond) (w : Word) : (s.callIf cd w).c = s.c := by unfold State.callIf; split <;> simp [*]
@[simp] theorem State.callIf_d (s : State) (cd : Cond) (w : Word) : (s.callIf cd w).d = s.d := by unfold State.callIf; split <;> simp [*]
@[simp] theorem State.callIf_e (s : State) (cd : Cond) (w : Word) : (s.callIf cd w).e = s.e := by unfold State.callIf; split <;> simp [*]
@[simp] theorem State.callIf_h (s : State) (cd : Cond) (w : Word) : (s.callIf cd w).h = s.h := by unfold State.callIf; split <;> simp [*]
@[simp] theorem State.callIf_l (s : State) (cd : Cond) (w : Word) : (s.callIf cd w).l = s.l := by unfold State.callIf; split <;> simp [*]
@[simp] theorem State.callIf_pc (s : State) (cd : Cond) (w : Word) : (s.callIf cd w).pc = if s.flags.satisfies cd then w else s.pc + 3 := by unfold State.callIf; split <;> simp [*]
@[simp] theorem State.callIf_sp (s : State) (cd : Cond) (w : Word) : (s.callIf cd w).sp = if s.flags.satisfies cd then s.sp - 2 else s.sp := by unfold State.callIf; split <;> simp [*]
@[simp] theorem State.callIf_flags (s : State) (cd : Cond) (w : Word) : (s.callIf cd w).flags = s.flags := by unfold State.callIf; split <;> simp [*]
@[simp] theorem State.callIf_inte (s : State) (cd : Cond) (w : Word) : (s.callIf cd w).inte = s.inte := by unfold State.callIf; split <;> simp [*]
@[simp] theorem State.callIf_halted (s : State) (cd : Cond) (w : Word) : (s.callIf cd w).halted = s.halted := by unfold State.callIf; split <;> simp [*]
@[simp] theorem State.callIf_unimpl (s : State) (cd : Cond) (w : Word) : (s.callIf cd w).unimpl = s.unimpl := by unfold State.callIf; split <;> simp [*]
@[simp] theorem State.callIf_stub (s : State) (cd : Cond) (w : Word) : (s.callIf cd w).stub = s.stub := by unfold State.callIf; split <;> simp [*]
@[simp] theorem State.callIf_mem (s : State) (cd : Cond) (w : Word) : (s.callIf cd w).mem = if s.flags.satisfies cd then (s.push (s.pc + 3)).mem else s.mem := by unfold State.callIf; split <;> simp [*]
@[simp] theorem State.callIf_params (s : State) (cd : Cond) (w : Word) : (s.callIf cd w).params = s.params := by unfold State.callIf; split <;> simp [*]
@[simp] theorem State.callIf_env (s : State) (cd : Cond) (w : Word) : (s.callIf cd w).env = s.env := by unfold State.callIf; split <;> simp [*]

/-! ### `leaveIf` -/

@[simp] theorem State.leaveIf_a (s : State) (cd : Cond) : (s.leaveIf cd).a = s.a := by unfold State.leaveIf; split <;> simp [*]
@[simp] theorem State.leaveIf_b (s : State) (cd : Cond) : (s.leaveIf cd).b = s.b := by unfold State.leaveIf; split <;> simp [*]
@[simp] theorem State.leaveIf_c (s : State) (cd : Cond) : (s.leaveIf cd).c = s.c := by unfold State.leaveIf; split <;> simp [*]
@[simp] theorem State.leaveIf_d (s : State) (cd : Cond) : (s.leaveIf cd).d = s.d := by unfold State.leaveIf; split <;> simp [*]
@[simp] theorem State.leaveIf_e (s : State) (cd : Cond) : (s.leaveIf cd).e = s.e := by unfold State.leaveIf; split <;> simp [*]
@[simp] theorem State.leaveIf_h (s : State) (cd : Cond) : (s.leaveIf cd).h = s.h := by unfold State.leaveIf; split <;> simp [*]
@[simp] theorem State.leaveIf_l (s : State) (cd : Cond) : (s.leaveIf cd).l = s.l := by unfold State.leaveIf; split <;> simp [*]
@[simp] theorem State.leaveIf_pc (s : State) (cd : Cond) : (s.leaveIf cd).pc = if s.flags.satisfies cd then s.top else s.pc + 1 := by unfold State.leaveIf; split <;> simp [*]
@[simp] theorem State.leaveIf_sp (s : State) (cd : Cond) : (s.leaveIf cd).sp = if s.flags.satisfies cd then s.sp + 2 else s.sp := by unfold State.leaveIf; split <;> simp [*]
@[simp] theorem State.leaveIf_flags (s : State) (cd : Cond) : (s.leaveIf cd).flags = s.flags := by unfold State.leaveIf; split <;> simp [*]
@[simp] theorem State.leaveIf_inte (s : State) (cd : Cond) : (s.leaveIf cd).inte = s.inte := by unfold State.leaveIf; split <;> simp [*]
@[simp] theorem State.leaveIf_halted (s : State) (cd : Cond) : (s.leaveIf cd).halted = s.halted := by unfold State.leaveIf; split <;> simp [*]
@[simp] theorem State.leaveIf_unimpl (s : State) (cd : Cond) : (s.leaveIf cd).unimpl = s.unimpl := by unfold State.leaveIf; split <;> simp [*]
@[simp] theorem State.leaveIf_stub (s : State) (cd : Cond) : (s.leaveIf cd).stub = s.stub := by unfold State.leaveIf; split <;> simp [*]
@[simp] theorem State.leaveIf_mem (s : State) (cd : Cond) : (s.leaveIf cd).mem = s.mem := by unfold State.leaveIf; split <;> simp [*]
@[simp] theorem State.leaveIf_params (s : State) (cd : Cond) : (s.leaveIf cd).params = s.params := by unfold State.leaveIf; split <;> simp [*]
@[simp] theorem State.leaveIf_env (s : State) (cd : Cond) : (s.leaveIf cd).env = s.env := by unfold State.leaveIf; split <;> simp [*]

/-! ### `portIn` -/

@[simp] theorem State.portIn_a (s : State) (p : Byte) : (s.portIn p).a = if s.params.ioBridge = .present then Config.ioAnswer s.env.inCount p else s.a := by unfold State.portIn; split <;> simp [*]
@[simp] theorem State.portIn_b (s : State) (p : Byte) : (s.portIn p).b = s.b := by unfold State.portIn; split <;> simp [*]
@[simp] theorem State.portIn_c (s : State) (p : Byte) : (s.portIn p).c = s.c := by unfold State.portIn; split <;> simp [*]
@[simp] theorem State.portIn_d (s : State) (p : Byte) : (s.portIn p).d = s.d := by unfold State.portIn; split <;> simp [*]
@[simp] theorem State.portIn_e (s : State) (p : Byte) : (s.portIn p).e = s.e := by unfold State.portIn; split <;> simp [*]
@[simp] theorem State.portIn_h (s : State) (p : Byte) : (s.portIn p).h = s.h := by unfold State.portIn; split <;> simp [*]
@[simp] theorem State.portIn_l (s : State) (p : Byte) : (s.portIn p).l = s.l := by unfold State.portIn; split <;> simp [*]
@[simp] theorem State.portIn_pc (s : State) (p : Byte) : (s.portIn p).pc = s.pc := by unfold State.portIn; split <;> simp [*]
@[simp] theorem State.portIn_sp (s : State) (p : Byte) : (s.portIn p).sp = s.sp := by unfold State.portIn; split <;> simp [*]
@[simp] theorem State.portIn_flags (s : State) (p : Byte) : (s.portIn p).flags = s.flags := by unfold State.portIn; split <;> simp [*]
@[simp] theorem State.portIn_inte (s : State) (p : Byte) : (s.portIn p).inte = s.inte := by unfold State.portIn; split <;> simp [*]
@[simp] theorem State.portIn_halted (s : State) (p : Byte) : (s.portIn p).halted = s.halted := by unfold State.portIn; split <;> simp [*]
@[simp] theorem State.portIn_unimpl (s : State) (p : Byte) : (s.portIn p).unimpl = s.unimpl := by unfold State.portIn; split <;> simp [*]
@[simp] theorem State.portIn_stub (s : State) (p : Byte) : (s.portIn p).stub = s.stub := by unfold State.portIn; split <;> simp [*]
@[simp] theorem State.portIn_mem (s : State) (p : Byte) : (s.portIn p).mem = s.mem := by unfold State.portIn; split <;> simp [*]
@[simp] theorem State.portIn_params (s : State) (p : Byte) : (s.portIn p).params = s.params := by unfold State.portIn; split <;> simp [*]
@[simp] theorem State.portIn_env (s : State) (p : Byte) : (s.portIn p).env = if s.params.ioBridge = .present then { s.env with inCount := s.env.inCount + 1 } else s.env := by unfold State.portIn; split <;> simp [*]

/-! ### `portOut` -/

@[simp] theorem State.portOut_a (s : State) (p : Byte) : (s.portOut p).a = s.a := by unfold State.portOut; split <;> simp [*]
@[simp] theorem State.portOut_b (s : State) (p : Byte) : (s.portOut p).b = s.b := by unfold State.portOut; split <;> simp [*]
@[simp] theorem State.portOut_c (s : State) (p : Byte) : (s.portOut p).c = s.c := by unfold State.portOut; split <;> simp [*]
@[simp] theorem State.portOut_d (s : State) (p : Byte) : (s.portOut p).d = s.d := by unfold State.portOut; split <;> simp [*]
@[simp] theorem State.portOut_e (s : State) (p : Byte) : (s.portOut p).e = s.e := by unfold State.portOut; split <;> simp [*]
@[simp] theorem State.portOut_h (s : State) (p : Byte) : (s.portOut p).h = s.h := by unfold State.portOut; split <;> simp [*]
@[simp] theorem State.portOut_l (s : State) (p : Byte) : (s.portOut p).l = s.l := by unfold State.portOut; split <;> simp [*]
@[simp] theorem State.portOut_pc (s : State) (p : Byte) : (s.portOut p).pc = s.pc := by unfold State.portOut; split <;> simp [*]
@[simp] theorem State.portOut_sp (s : State) (p : Byte) : (s.portOut p).sp = s.sp := by unfold State.portOut; split <;> simp [*]
@[simp] theorem State.portOut_flags (s : State) (p : Byte) : (s.portOut p).flags = s.flags := by unfold State.portOut; split <;> simp [*]
@[simp] theorem State.portOut_inte (s : State) (p : Byte) : (s.portOut p).inte = s.inte := by unfold State.portOut; split <;> simp [*]
@[simp] theorem State.portOut_halted (s : State) (p : Byte) : (s.portOut p).halted = s.halted := by unfold State.portOut; split <;> simp [*]
@[simp] theorem State.portOut_unimpl (s : State) (p : Byte) : (s.portOut p).unimpl = s.unimpl := by unfold State.portOut; split <;> simp [*]
@[simp] theorem State.portOut_stub (s : State) (p : Byte) : (s.portOut p).stub = s.stub := by unfold State.portOut; split <;> simp [*]
@[simp] theorem State.portOut_mem (s : State) (p : Byte) : (s.portOut p).mem = s.mem := by unfold State.portOut; split <;> simp [*]
@[simp] theorem State.portOut_params (s : State) (p : Byte) : (s.portOut p).params = s.params := by unfold State.portOut; split <;> simp [*]
@[simp] theorem State.portOut_env (s : State) (p : Byte) : (s.portOut p).env = if s.params.ioBridge = .present then { s.env with outs := s.env.outs ++ [(p, s.a)] } else s.env := by unfold State.portOut; split <;> simp [*]

/-! ### `deliverInterrupt` -/

@[simp] theorem State.deliverInterrupt_a (s : State) (v : BitVec 3) : (s.deliverInterrupt v).a = s.a := by simp [State.deliverInterrupt]
@[simp] theorem State.deliverInterrupt_b (s : State) (v : BitVec 3) : (s.deliverInterrupt v).b = s.b := by simp [State.deliverInterrupt]
@[simp] theorem State.deliverInterrupt_c (s : State) (v : BitVec 3) : (s.deliverInterrupt v).c = s.c := by simp [State.deliverInterrupt]
@[simp] theorem State.deliverInterrupt_d (s : State) (v : BitVec 3) : (s.deliverInterrupt v).d = s.d := by simp [State.deliverInterrupt]
@[simp] theorem State.deliverInterrupt_e (s : State) (v : BitVec 3) : (s.deliverInterrupt v).e = s.e := by simp [State.deliverInterrupt]
@[simp] theorem State.deliverInterrupt_h (s : State) (v : BitVec 3) : (s.deliverInterrupt v).h = s.h := by simp [State.deliverInterrupt]
@[simp] theorem State.deliverInterrupt_l (s : State) (v : BitVec 3) : (s.deliverInterrupt v).l = s.l := by simp [State.deliverInterrupt]
@[simp] theorem State.deliverInterrupt_pc (s : State) (v : BitVec 3) : (s.deliverInterrupt v).pc = vectorAddress v := by simp [State.deliverInterrupt]
@[simp] theorem State.deliverInterrupt_sp (s : State) (v : BitVec 3) : (s.deliverInterrupt v).sp = s.sp - 2 := by simp [State.deliverInterrupt]
@[simp] theorem State.deliverInterrupt_flags (s : State) (v : BitVec 3) : (s.deliverInterrupt v).flags = s.flags := by simp [State.deliverInterrupt]
@[simp] theorem State.deliverInterrupt_inte (s : State) (v : BitVec 3) : (s.deliverInterrupt v).inte = if s.params.intAckClearsInte then false else s.inte := by simp [State.deliverInterrupt]
@[simp] theorem State.deliverInterrupt_halted (s : State) (v : BitVec 3) : (s.deliverInterrupt v).halted = s.halted := by simp [State.deliverInterrupt]
@[simp] theorem State.deliverInterrupt_unimpl (s : State) (v : BitVec 3) : (s.deliverInterrupt v).unimpl = s.unimpl := by simp [State.deliverInterrupt]
@[simp] theorem State.deliverInterrupt_stub (s : State) (v : BitVec 3) : (s.deliverInterrupt v).stub = s.stub := by simp [State.deliverInterrupt]
@[simp] theorem State.deliverInterrupt_mem (s : State) (v : BitVec 3) : (s.deliverInterrupt v).mem = Memory.write (Memory.write s.mem (s.sp - 1).toNat (hiByte s.pc)) (s.sp - 2).toNat (loByte s.pc) := by simp [State.deliverInterrupt]
@[simp] theorem State.deliverInterrupt_params (s : State) (v : BitVec 3) : (s.deliverInterrupt v).params = s.params := by simp [State.deliverInterrupt]
@[simp] theorem State.deliverInterrupt_env (s : State) (v : BitVec 3) : (s.deliverInterrupt v).env = s.env := by simp [State.deliverInterrupt]

/-! ### `request` -/

@[simp] theorem State.request_a (s : State) (v : BitVec 3) : (s.request v).a = s.a := by unfold State.request; split <;> simp [*]
@[simp] theorem State.request_b (s : State) (v : BitVec 3) : (s.request v).b = s.b := by unfold State.request; split <;> simp [*]
@[simp] theorem State.request_c (s : State) (v : BitVec 3) : (s.request v).c = s.c := by unfold State.request; split <;> simp [*]
@[simp] theorem State.request_d (s : State) (v : BitVec 3) : (s.request v).d = s.d := by unfold State.request; split <;> simp [*]
@[simp] theorem State.request_e (s : State) (v : BitVec 3) : (s.request v).e = s.e := by unfold State.request; split <;> simp [*]
@[simp] theorem State.request_h (s : State) (v : BitVec 3) : (s.request v).h = s.h := by unfold State.request; split <;> simp [*]
@[simp] theorem State.request_l (s : State) (v : BitVec 3) : (s.request v).l = s.l := by unfold State.request; split <;> simp [*]
@[simp] theorem State.request_pc (s : State) (v : BitVec 3) : (s.request v).pc = if s.inte then vectorAddress v else s.pc := by unfold State.request; split <;> simp [*]
@[simp] theorem State.request_sp (s : State) (v : BitVec 3) : (s.request v).sp = if s.inte then s.sp - 2 else s.sp := by unfold State.request; split <;> simp [*]
@[simp] theorem State.request_flags (s : State) (v : BitVec 3) : (s.request v).flags = s.flags := by unfold State.request; split <;> simp [*]
@[simp] theorem State.request_inte (s : State) (v : BitVec 3) : (s.request v).inte = (s.inte && !s.params.intAckClearsInte) := by
  unfold State.request
  split
  · rename_i h
    rw [State.deliverInterrupt_inte, h]
    cases s.params.intAckClearsInte <;> rfl
  · rename_i h
    rw [Bool.not_eq_true] at h
    rw [h, Bool.false_and]
@[simp] theorem State.request_halted (s : State) (v : BitVec 3) : (s.request v).halted = s.halted := by unfold State.request; split <;> simp [*]
@[simp] theorem State.request_unimpl (s : State) (v : BitVec 3) : (s.request v).unimpl = s.unimpl := by unfold State.request; split <;> simp [*]
@[simp] theorem State.request_stub (s : State) (v : BitVec 3) : (s.request v).stub = s.stub := by unfold State.request; split <;> simp [*]
@[simp] theorem State.request_mem (s : State) (v : BitVec 3) : (s.request v).mem = if s.inte then (s.push s.pc).mem else s.mem := by unfold State.request; split <;> simp [*]
@[simp] theorem State.request_params (s : State) (v : BitVec 3) : (s.request v).params = s.params := by unfold State.request; split <;> simp [*]
@[simp] theorem State.request_env (s : State) (v : BitVec 3) : (s.request v).env = s.env := by unfold State.request; split <;> simp [*]

end Sys2Proof.Machine
end

