-- ==== Sys2Proof/Laws/Ops.lean ====
section
/-! SUPPORT. What each shared operation does, said once: registers and pairs, the bytes each operation
stores, the stack, and that every one keeps the canonical form of memory. -/

namespace Sys2Proof.Machine

/-! ### Registers and pairs -/

@[simp] theorem State.reg_setReg (s : State) (r q : Reg) (v : Byte) :
    (s.setReg r v).reg q = if q = r then v else s.reg q := by
  cases r <;> cases q <;> rfl

@[simp] theorem State.pair_setPair_self (s : State) (rp : RegPair) (w : Word) :
    (s.setPair rp w).pair rp = w := by
  cases rp <;> simp [State.setPair, State.pair]

/-- Registers are read through their own seven fields alone. -/
theorem State.reg_congr {s t : State} (h : t.a = s.a ∧ t.b = s.b ∧ t.c = s.c ∧ t.d = s.d ∧ t.e = s.e ∧
    t.h = s.h ∧ t.l = s.l) (r : Reg) : t.reg r = s.reg r := by
  obtain ⟨ha, hb, hc, hd, he, hh, hl⟩ := h
  cases r <;> simp [State.reg, *]

@[simp] theorem State.reg_advance (s : State) (n : Nat) (r : Reg) : (s.advance n).reg r = s.reg r := by
  cases r <;> rfl

@[simp] theorem State.reg_goto (s : State) (w : Word) (r : Reg) : (s.goto w).reg r = s.reg r := by
  cases r <;> rfl

@[simp] theorem State.reg_setFlags (s : State) (f : Flags) (r : Reg) : (s.setFlags f).reg r = s.reg r := by
  cases r <;> rfl

@[simp] theorem State.reg_setAlu (s : State) (x : Alu) (r : Reg) :
    (s.setAlu x).reg r = if r = .A then x.value else s.reg r := by
  cases r <;> rfl

@[simp] theorem State.reg_writeByte (s : State) (a : Word) (v : Byte) (r : Reg) :
    (s.writeByte a v).reg r = s.reg r := by
  cases r <;> rfl

@[simp] theorem State.reg_push (s : State) (w : Word) (r : Reg) : (s.push w).reg r = s.reg r := by
  cases r <;> rfl

@[simp] theorem State.reg_drop (s : State) (r : Reg) : s.drop.reg r = s.reg r := by
  cases r <;> rfl

@[simp] theorem State.reg_setSp (s : State) (w : Word) (r : Reg) :
    (s.setSp w).reg r = s.reg r := by
  cases r <;> simp [State.reg]

@[simp] theorem State.reg_setInte (s : State) (x : Bool) (r : Reg) :
    (s.setInte x).reg r = s.reg r := by
  cases r <;> simp [State.reg]

@[simp] theorem State.reg_setHalted (s : State) (x : Bool) (r : Reg) :
    (s.setHalted x).reg r = s.reg r := by
  cases r <;> simp [State.reg]

@[simp] theorem State.reg_setUnimpl (s : State) (x : Bool) (r : Reg) :
    (s.setUnimpl x).reg r = s.reg r := by
  cases r <;> simp [State.reg]

@[simp] theorem State.reg_setStub (s : State) (x : Bool) (r : Reg) :
    (s.setStub x).reg r = s.reg r := by
  cases r <;> simp [State.reg]

@[simp] theorem State.reg_writeWord (s : State) (k w : Word) (r : Reg) :
    (s.writeWord k w).reg r = s.reg r := by
  cases r <;> simp [State.reg]

@[simp] theorem State.reg_enter (s : State) (ret w : Word) (r : Reg) :
    (s.enter ret w).reg r = s.reg r := by
  cases r <;> simp [State.reg]

@[simp] theorem State.reg_leave (s : State) (r : Reg) :
    (s.leave).reg r = s.reg r := by
  cases r <;> simp [State.reg]

@[simp] theorem State.reg_reportUnimpl (s : State) (r : Reg) :
    (s.reportUnimpl).reg r = s.reg r := by
  cases r <;> simp [State.reg]

@[simp] theorem State.reg_withTurns (s : State) (ts : List Turn) (r : Reg) :
    (s.withTurns ts).reg r = s.reg r := by
  cases r <;> simp [State.reg]

@[simp] theorem State.reg_callTo (s : State) (w : Word) (r : Reg) :
    (s.callTo w).reg r = s.reg r := by
  cases r <;> simp [State.reg]

@[simp] theorem State.reg_jumpIf (s : State) (cd : Cond) (w : Word) (r : Reg) :
    (s.jumpIf cd w).reg r = s.reg r := by
  cases r <;> simp [State.reg]

@[simp] theorem State.reg_callIf (s : State) (cd : Cond) (w : Word) (r : Reg) :
    (s.callIf cd w).reg r = s.reg r := by
  cases r <;> simp [State.reg]

@[simp] theorem State.reg_leaveIf (s : State) (cd : Cond) (r : Reg) :
    (s.leaveIf cd).reg r = s.reg r := by
  cases r <;> simp [State.reg]

@[simp] theorem State.reg_portOut (s : State) (p : Byte) (r : Reg) :
    (s.portOut p).reg r = s.reg r := by
  cases r <;> simp [State.reg]

@[simp] theorem State.reg_deliverInterrupt (s : State) (v : BitVec 3) (r : Reg) :
    (s.deliverInterrupt v).reg r = s.reg r := by
  cases r <;> simp [State.reg]

@[simp] theorem State.reg_request (s : State) (v : BitVec 3) (r : Reg) :
    (s.request v).reg r = s.reg r := by
  cases r <;> simp [State.reg]

@[simp] theorem State.reg_portIn (s : State) (p : Byte) (r : Reg) (h : r ≠ .A) :
    (s.portIn p).reg r = s.reg r := by
  cases r <;> simp [State.reg] at h ⊢

@[simp] theorem State.pair_advance (s : State) (n : Nat) (rp : RegPair) :
    (s.advance n).pair rp = s.pair rp := by
  cases rp <;> rfl

@[simp] theorem State.pair_goto (s : State) (w : Word) (rp : RegPair) :
    (s.goto w).pair rp = s.pair rp := by
  cases rp <;> rfl

@[simp] theorem State.pair_setFlags (s : State) (f : Flags) (rp : RegPair) :
    (s.setFlags f).pair rp = s.pair rp := by
  cases rp <;> rfl

@[simp] theorem State.pair_setInte (s : State) (x : Bool) (rp : RegPair) :
    (s.setInte x).pair rp = s.pair rp := by
  cases rp <;> rfl

@[simp] theorem State.pair_setHalted (s : State) (x : Bool) (rp : RegPair) :
    (s.setHalted x).pair rp = s.pair rp := by
  cases rp <;> rfl

@[simp] theorem State.pair_setUnimpl (s : State) (x : Bool) (rp : RegPair) :
    (s.setUnimpl x).pair rp = s.pair rp := by
  cases rp <;> rfl

@[simp] theorem State.pair_writeByte (s : State) (k : Word) (v : Byte) (rp : RegPair) :
    (s.writeByte k v).pair rp = s.pair rp := by
  cases rp <;> rfl

@[simp] theorem State.pair_writeWord (s : State) (k w : Word) (rp : RegPair) :
    (s.writeWord k w).pair rp = s.pair rp := by
  cases rp <;> rfl

@[simp] theorem State.pair_withTurns (s : State) (ts : List Turn) (rp : RegPair) :
    (s.withTurns ts).pair rp = s.pair rp := by
  cases rp <;> rfl

theorem State.pair_BC (s : State) : s.pair .BC = joinBytes s.b s.c := rfl

@[simp] theorem State.setPair_BC_b (s : State) (w : Word) : (s.setPair .BC w).b = hiByte w := rfl

@[simp] theorem State.setPair_BC_c (s : State) (w : Word) : (s.setPair .BC w).c = loByte w := rfl

@[simp] theorem State.setPair_BC_a (s : State) (w : Word) : (s.setPair .BC w).a = s.a := rfl

@[simp] theorem State.setPair_BC_d (s : State) (w : Word) : (s.setPair .BC w).d = s.d := rfl

@[simp] theorem State.setPair_BC_e (s : State) (w : Word) : (s.setPair .BC w).e = s.e := rfl

@[simp] theorem State.setPair_BC_h (s : State) (w : Word) : (s.setPair .BC w).h = s.h := rfl

@[simp] theorem State.setPair_BC_l (s : State) (w : Word) : (s.setPair .BC w).l = s.l := rfl

theorem State.pair_DE (s : State) : s.pair .DE = joinBytes s.d s.e := rfl

@[simp] theorem State.setPair_DE_d (s : State) (w : Word) : (s.setPair .DE w).d = hiByte w := rfl

@[simp] theorem State.setPair_DE_e (s : State) (w : Word) : (s.setPair .DE w).e = loByte w := rfl

@[simp] theorem State.setPair_DE_a (s : State) (w : Word) : (s.setPair .DE w).a = s.a := rfl

@[simp] theorem State.setPair_DE_b (s : State) (w : Word) : (s.setPair .DE w).b = s.b := rfl

@[simp] theorem State.setPair_DE_c (s : State) (w : Word) : (s.setPair .DE w).c = s.c := rfl

@[simp] theorem State.setPair_DE_h (s : State) (w : Word) : (s.setPair .DE w).h = s.h := rfl

@[simp] theorem State.setPair_DE_l (s : State) (w : Word) : (s.setPair .DE w).l = s.l := rfl

theorem State.pair_HL (s : State) : s.pair .HL = joinBytes s.h s.l := rfl

@[simp] theorem State.setPair_HL_h (s : State) (w : Word) : (s.setPair .HL w).h = hiByte w := rfl

@[simp] theorem State.setPair_HL_l (s : State) (w : Word) : (s.setPair .HL w).l = loByte w := rfl

@[simp] theorem State.setPair_HL_a (s : State) (w : Word) : (s.setPair .HL w).a = s.a := rfl

@[simp] theorem State.setPair_HL_b (s : State) (w : Word) : (s.setPair .HL w).b = s.b := rfl

@[simp] theorem State.setPair_HL_c (s : State) (w : Word) : (s.setPair .HL w).c = s.c := rfl

@[simp] theorem State.setPair_HL_d (s : State) (w : Word) : (s.setPair .HL w).d = s.d := rfl

@[simp] theorem State.setPair_HL_e (s : State) (w : Word) : (s.setPair .HL w).e = s.e := rfl

/-! ### Memory under the updates that store nothing -/

@[simp] theorem State.readByte_advance (s : State) (n : Nat) (a : Word) :
    (s.advance n).readByte a = s.readByte a := rfl

@[simp] theorem State.readByte_goto (s : State) (w a : Word) : (s.goto w).readByte a = s.readByte a := rfl

@[simp] theorem State.readByte_setFlags (s : State) (f : Flags) (a : Word) :
    (s.setFlags f).readByte a = s.readByte a := rfl

@[simp] theorem State.readByte_setAlu (s : State) (x : Alu) (a : Word) :
    (s.setAlu x).readByte a = s.readByte a := rfl

@[simp] theorem State.readByte_setSp (s : State) (w a : Word) :
    (s.setSp w).readByte a = s.readByte a := rfl

@[simp] theorem State.readByte_drop (s : State) (a : Word) : s.drop.readByte a = s.readByte a := rfl

@[simp] theorem State.readByte_withTurns (s : State) (ts : List Turn) (a : Word) :
    (s.withTurns ts).readByte a = s.readByte a := rfl

@[simp] theorem State.readByte_setReg (s : State) (r : Reg) (v : Byte) (a : Word) :
    (s.setReg r v).readByte a = s.readByte a := State.readByte_congr (by simp) a

@[simp] theorem State.readByte_setPair (s : State) (rp : RegPair) (w a : Word) :
    (s.setPair rp w).readByte a = s.readByte a := State.readByte_congr (by simp) a

@[simp] theorem State.readByte_setInte (s : State) (x : Bool) (k : Word) :
    (s.setInte x).readByte k = s.readByte k := State.readByte_congr (by simp) k

@[simp] theorem State.readByte_setHalted (s : State) (x : Bool) (k : Word) :
    (s.setHalted x).readByte k = s.readByte k := State.readByte_congr (by simp) k

@[simp] theorem State.readByte_setUnimpl (s : State) (x : Bool) (k : Word) :
    (s.setUnimpl x).readByte k = s.readByte k := State.readByte_congr (by simp) k

@[simp] theorem State.readByte_setStub (s : State) (x : Bool) (k : Word) :
    (s.setStub x).readByte k = s.readByte k := State.readByte_congr (by simp) k

@[simp] theorem State.readByte_leave (s : State) (k : Word) :
    (s.leave).readByte k = s.readByte k := State.readByte_congr (by simp) k

@[simp] theorem State.readByte_reportUnimpl (s : State) (k : Word) :
    (s.reportUnimpl).readByte k = s.readByte k := State.readByte_congr (by simp) k

@[simp] theorem State.readByte_jumpIf (s : State) (cd : Cond) (w : Word) (k : Word) :
    (s.jumpIf cd w).readByte k = s.readByte k := State.readByte_congr (by simp) k

@[simp] theorem State.readByte_leaveIf (s : State) (cd : Cond) (k : Word) :
    (s.leaveIf cd).readByte k = s.readByte k := State.readByte_congr (by simp) k

@[simp] theorem State.readByte_portIn (s : State) (p : Byte) (k : Word) :
    (s.portIn p).readByte k = s.readByte k := State.readByte_congr (by simp) k

@[simp] theorem State.readByte_portOut (s : State) (p : Byte) (k : Word) :
    (s.portOut p).readByte k = s.readByte k := State.readByte_congr (by simp) k

/-! ### The stack (R38, R39) -/

/-- `Push` stores two bytes and nothing else. -/
theorem State.readByte_push (s : State) (w a : Word) :
    (s.push w).readByte a =
      if a = s.sp - 2 then loByte w else if a = s.sp - 1 then hiByte w else s.readByte a := by
  rw [State.push, State.readByte_setSp]
  simp only [State.readByte_writeByte]

@[simp] theorem State.readByte_enter (s : State) (ret w k : Word) :
    (s.enter ret w).readByte k = (s.push ret).readByte k := rfl

@[simp] theorem State.readByte_callTo (s : State) (w k : Word) :
    (s.callTo w).readByte k = (s.push (s.pc + 3)).readByte k := rfl

@[simp] theorem State.readByte_callIf (s : State) (cd : Cond) (w k : Word) :
    (s.callIf cd w).readByte k =
      if s.flags.satisfies cd then (s.push (s.pc + 3)).readByte k else s.readByte k := by
  unfold State.callIf
  split <;> simp

@[simp] theorem State.readByte_deliverInterrupt (s : State) (v : BitVec 3) (k : Word) :
    (s.deliverInterrupt v).readByte k = (s.push s.pc).readByte k := rfl

@[simp] theorem State.readByte_request (s : State) (v : BitVec 3) (k : Word) :
    (s.request v).readByte k = if s.inte then (s.push s.pc).readByte k else s.readByte k := by
  unfold State.request
  split <;> simp

/-- A two-byte store writes two bytes and nothing else. -/
theorem State.readByte_writeWord (s : State) (k w a : Word) :
    (s.writeWord k w).readByte a =
      if a = k + 1 then hiByte w else if a = k then loByte w else s.readByte a := by
  simp only [State.writeWord, State.readByte_writeByte]

/-- The Word on top of the stack depends on memory and `sp` alone. -/
theorem State.top_congr {s t : State} (hm : t.mem = s.mem) (hs : t.sp = s.sp) : t.top = s.top := by
  simp only [State.top, State.readByte, hm, hs]

/-- A two-byte read depends on memory alone. -/
theorem State.readWord_congr {s t : State} (h : t.mem = s.mem) (a : Word) :
    t.readWord a = s.readWord a := by
  simp only [State.readWord, State.readByte, h]

/-- What a push stores depends on memory and `sp` alone. -/
theorem State.push_mem_congr {s t : State} (hm : t.mem = s.mem) (hs : t.sp = s.sp) (w : Word) :
    (t.push w).mem = (s.push w).mem := by
  simp only [State.push_mem, hm, hs]

/-- "`Pop()` after `Push(w)` with no write between returns `w`" (R39). -/
theorem State.top_push (s : State) (w : Word) : (s.push w).top = w := by
  have h' : s.sp - 2 + 1 = s.sp - 1 := by bv_omega
  simp only [State.top, State.readByte_push, State.push_sp]
  have h : s.sp - 1 ≠ s.sp - 2 := by bv_omega
  simp only [h', h, if_true, if_false, joinBytes_hiByte_loByte]

/-- "... and restores `sp`" (R39). -/
theorem State.drop_push_sp (s : State) (w : Word) : (s.push w).drop.sp = s.sp := by
  simp only [State.drop_sp, State.push_sp]
  bv_omega

/-! ### The canonical form -/

theorem State.wf_push (s : State) (w : Word) (h : Memory.wf s.mem) : Memory.wf (s.push w).mem :=
  Memory.wf_write _ _ _ (BitVec.isLt _) (Memory.wf_write _ _ _ (BitVec.isLt _) h)

theorem State.wf_writeWord (s : State) (k w : Word) (h : Memory.wf s.mem) :
    Memory.wf (s.writeWord k w).mem :=
  State.wf_writeByte _ _ _ (State.wf_writeByte s k (loByte w) h)

theorem State.wf_deliverInterrupt (s : State) (v : BitVec 3) (h : Memory.wf s.mem) :
    Memory.wf (s.deliverInterrupt v).mem := by
  simpa using State.wf_push s s.pc h

theorem State.wf_request (s : State) (v : BitVec 3) (h : Memory.wf s.mem) :
    Memory.wf (s.request v).mem := by
  unfold State.request
  split
  · exact State.wf_deliverInterrupt s v h
  · exact h

/-! ### The PSW (R16) -/

/-- "`FromPSW(ToPSW(F)) = F`" (R16). -/
@[simp] theorem Flags.ofPsw_toPsw (f : Flags) : Flags.ofPsw f.toPsw = f := by
  obtain ⟨s, z, ac, p, cy⟩ := f
  revert s z ac p cy
  decide

/-! ### The conditions (R160) -/

@[simp] theorem Flags.satisfies_nz (f : Flags) : f.satisfies .nz = !f.z := by
  simp [Flags.satisfies]
@[simp] theorem Flags.satisfies_z (f : Flags) : f.satisfies .z = f.z := by
  simp [Flags.satisfies]
@[simp] theorem Flags.satisfies_nc (f : Flags) : f.satisfies .nc = !f.cy := by
  simp [Flags.satisfies]
@[simp] theorem Flags.satisfies_c (f : Flags) : f.satisfies .c = f.cy := by
  simp [Flags.satisfies]
@[simp] theorem Flags.satisfies_po (f : Flags) : f.satisfies .po = !f.p := by
  simp [Flags.satisfies]
@[simp] theorem Flags.satisfies_pe (f : Flags) : f.satisfies .pe = f.p := by
  simp [Flags.satisfies]
@[simp] theorem Flags.satisfies_p (f : Flags) : f.satisfies .p = !f.s := by
  simp [Flags.satisfies]
@[simp] theorem Flags.satisfies_m (f : Flags) : f.satisfies .m = f.s := by
  simp [Flags.satisfies]

/-! ### Conditional transfers: one of two cases -/

theorem State.jumpIf_cases (s : State) (cond : Cond) (a16 : Word) :
    (s.flags.satisfies cond = true ∧ s.jumpIf cond a16 = s.goto a16) ∨
      (s.flags.satisfies cond = false ∧ s.jumpIf cond a16 = s.advance 3) := by
  unfold State.jumpIf
  cases s.flags.satisfies cond <;> simp

theorem State.callIf_cases (s : State) (cond : Cond) (a16 : Word) :
    (s.flags.satisfies cond = true ∧ s.callIf cond a16 = s.callTo a16) ∨
      (s.flags.satisfies cond = false ∧ s.callIf cond a16 = s.advance 3) := by
  unfold State.callIf
  cases s.flags.satisfies cond <;> simp

theorem State.leaveIf_cases (s : State) (cond : Cond) :
    (s.flags.satisfies cond = true ∧ s.leaveIf cond = s.leave) ∨
      (s.flags.satisfies cond = false ∧ s.leaveIf cond = s.advance 1) := by
  unfold State.leaveIf
  cases s.flags.satisfies cond <;> simp

/-! ### The ports: one of two cases -/

theorem State.portIn_absent (s : State) (p : Byte) (h : s.params.ioBridge = .absent) :
    s.portIn p = s := by
  simp only [State.portIn, h]

theorem State.portIn_present (s : State) (p : Byte) (h : s.params.ioBridge = .present) :
    s.portIn p = { s with a := Config.ioAnswer s.env.inCount p,
                          env := { s.env with inCount := s.env.inCount + 1 } } := by
  simp only [State.portIn, h]

theorem State.portOut_absent (s : State) (p : Byte) (h : s.params.ioBridge = .absent) :
    s.portOut p = s := by
  simp only [State.portOut, h]

theorem State.portOut_present (s : State) (p : Byte) (h : s.params.ioBridge = .present) :
    s.portOut p = { s with env := { s.env with outs := s.env.outs ++ [(p, s.a)] } } := by
  simp only [State.portOut, h]

/-! ### Interrupts (R244) -/

theorem State.request_disabled (s : State) (v : BitVec 3) (h : s.inte = false) : s.request v = s := by
  simp [State.request, h]

theorem State.request_enabled (s : State) (v : BitVec 3) (h : s.inte = true) :
    s.request v = s.deliverInterrupt v := by
  simp [State.request, h]

/-! ### One move (R6) -/

theorem oneMove_cases (s : State) :
    (s.env.turns = [] ∧ oneMove s = engineStep s) ∨
      (∃ ts, s.env.turns = .engine :: ts ∧ oneMove s = engineStep (s.withTurns ts)) ∨
        ∃ turn ts, turn ≠ .engine ∧ s.env.turns = turn :: ts ∧
          oneMove s = .next ((s.withTurns ts).environmentMove turn) := by
  unfold oneMove
  match h : s.env.turns with
  | [] => exact .inl ⟨rfl, rfl⟩
  | .engine :: ts => exact .inr (.inl ⟨ts, rfl, rfl⟩)
  | .request v :: ts => exact .inr (.inr ⟨.request v, ts, by simp, rfl, rfl⟩)
  | .clearUnimpl :: ts => exact .inr (.inr ⟨.clearUnimpl, ts, by simp, rfl, rfl⟩)
  | .clearStub :: ts => exact .inr (.inr ⟨.clearStub, ts, by simp, rfl, rfl⟩)

end Sys2Proof.Machine
end

