-- ==== Sys2Proof/Laws/PerInstr.lean ====
section
/-! SUPPORT. Facts about every instruction as syntax, one lemma per constructor. -/

namespace Sys2Proof.Laws

/-- The encoder writes as many bytes as the instruction's length (R51). -/
def EncodeLength.Statement (i : Instr) : Prop := (encode i).length = i.length

theorem EncodeLength.movRR (d r : Reg) : EncodeLength.Statement (.movRR d r) := rfl
theorem EncodeLength.movRM (d : Reg) : EncodeLength.Statement (.movRM d) := rfl
theorem EncodeLength.movMR (r : Reg) : EncodeLength.Statement (.movMR r) := rfl
theorem EncodeLength.mviR (d : Reg) (d8 : Byte) : EncodeLength.Statement (.mviR d d8) := rfl
theorem EncodeLength.mviM (d8 : Byte) : EncodeLength.Statement (.mviM d8) := rfl
theorem EncodeLength.lxi (rp : RegPair) (d16 : Word) : EncodeLength.Statement (.lxi rp d16) := rfl
theorem EncodeLength.lda (a16 : Word) : EncodeLength.Statement (.lda a16) := rfl
theorem EncodeLength.sta (a16 : Word) : EncodeLength.Statement (.sta a16) := rfl
theorem EncodeLength.lhld (a16 : Word) : EncodeLength.Statement (.lhld a16) := rfl
theorem EncodeLength.shld (a16 : Word) : EncodeLength.Statement (.shld a16) := rfl
theorem EncodeLength.ldax (rp : RegPair) : EncodeLength.Statement (.ldax rp) := rfl
theorem EncodeLength.stax (rp : RegPair) : EncodeLength.Statement (.stax rp) := rfl
theorem EncodeLength.xchg : EncodeLength.Statement (.xchg) := rfl
theorem EncodeLength.addR (r : Reg) : EncodeLength.Statement (.addR r) := rfl
theorem EncodeLength.addM : EncodeLength.Statement (.addM) := rfl
theorem EncodeLength.adi (d8 : Byte) : EncodeLength.Statement (.adi d8) := rfl
theorem EncodeLength.adcR (r : Reg) : EncodeLength.Statement (.adcR r) := rfl
theorem EncodeLength.adcM : EncodeLength.Statement (.adcM) := rfl
theorem EncodeLength.aci (d8 : Byte) : EncodeLength.Statement (.aci d8) := rfl
theorem EncodeLength.subR (r : Reg) : EncodeLength.Statement (.subR r) := rfl
theorem EncodeLength.subM : EncodeLength.Statement (.subM) := rfl
theorem EncodeLength.sui (d8 : Byte) : EncodeLength.Statement (.sui d8) := rfl
theorem EncodeLength.sbbR (r : Reg) : EncodeLength.Statement (.sbbR r) := rfl
theorem EncodeLength.sbbM : EncodeLength.Statement (.sbbM) := rfl
theorem EncodeLength.sbi (d8 : Byte) : EncodeLength.Statement (.sbi d8) := rfl
theorem EncodeLength.inrR (d : Reg) : EncodeLength.Statement (.inrR d) := rfl
theorem EncodeLength.inrM : EncodeLength.Statement (.inrM) := rfl
theorem EncodeLength.dcrR (d : Reg) : EncodeLength.Statement (.dcrR d) := rfl
theorem EncodeLength.dcrM : EncodeLength.Statement (.dcrM) := rfl
theorem EncodeLength.inx (rp : RegPair) : EncodeLength.Statement (.inx rp) := rfl
theorem EncodeLength.dcx (rp : RegPair) : EncodeLength.Statement (.dcx rp) := rfl
theorem EncodeLength.dad (rp : RegPair) : EncodeLength.Statement (.dad rp) := rfl
theorem EncodeLength.daa : EncodeLength.Statement (.daa) := rfl
theorem EncodeLength.anaR (r : Reg) : EncodeLength.Statement (.anaR r) := rfl
theorem EncodeLength.anaM : EncodeLength.Statement (.anaM) := rfl
theorem EncodeLength.ani (d8 : Byte) : EncodeLength.Statement (.ani d8) := rfl
theorem EncodeLength.xraR (r : Reg) : EncodeLength.Statement (.xraR r) := rfl
theorem EncodeLength.xraM : EncodeLength.Statement (.xraM) := rfl
theorem EncodeLength.xri (d8 : Byte) : EncodeLength.Statement (.xri d8) := rfl
theorem EncodeLength.oraR (r : Reg) : EncodeLength.Statement (.oraR r) := rfl
theorem EncodeLength.oraM : EncodeLength.Statement (.oraM) := rfl
theorem EncodeLength.ori (d8 : Byte) : EncodeLength.Statement (.ori d8) := rfl
theorem EncodeLength.cmpR (r : Reg) : EncodeLength.Statement (.cmpR r) := rfl
theorem EncodeLength.cmpM : EncodeLength.Statement (.cmpM) := rfl
theorem EncodeLength.cpi (d8 : Byte) : EncodeLength.Statement (.cpi d8) := rfl
theorem EncodeLength.rlc : EncodeLength.Statement (.rlc) := rfl
theorem EncodeLength.rrc : EncodeLength.Statement (.rrc) := rfl
theorem EncodeLength.ral : EncodeLength.Statement (.ral) := rfl
theorem EncodeLength.rar : EncodeLength.Statement (.rar) := rfl
theorem EncodeLength.cma : EncodeLength.Statement (.cma) := rfl
theorem EncodeLength.stc : EncodeLength.Statement (.stc) := rfl
theorem EncodeLength.cmc : EncodeLength.Statement (.cmc) := rfl
theorem EncodeLength.jmp (a16 : Word) : EncodeLength.Statement (.jmp a16) := rfl
theorem EncodeLength.jmpAlt (a16 : Word) : EncodeLength.Statement (.jmpAlt a16) := rfl
theorem EncodeLength.jnz (a16 : Word) : EncodeLength.Statement (.jnz a16) := rfl
theorem EncodeLength.jz (a16 : Word) : EncodeLength.Statement (.jz a16) := rfl
theorem EncodeLength.jnc (a16 : Word) : EncodeLength.Statement (.jnc a16) := rfl
theorem EncodeLength.jc (a16 : Word) : EncodeLength.Statement (.jc a16) := rfl
theorem EncodeLength.jpo (a16 : Word) : EncodeLength.Statement (.jpo a16) := rfl
theorem EncodeLength.jpe (a16 : Word) : EncodeLength.Statement (.jpe a16) := rfl
theorem EncodeLength.jp (a16 : Word) : EncodeLength.Statement (.jp a16) := rfl
theorem EncodeLength.jm (a16 : Word) : EncodeLength.Statement (.jm a16) := rfl
theorem EncodeLength.call (a16 : Word) : EncodeLength.Statement (.call a16) := rfl
theorem EncodeLength.cnz (a16 : Word) : EncodeLength.Statement (.cnz a16) := rfl
theorem EncodeLength.cz (a16 : Word) : EncodeLength.Statement (.cz a16) := rfl
theorem EncodeLength.cnc (a16 : Word) : EncodeLength.Statement (.cnc a16) := rfl
theorem EncodeLength.cc (a16 : Word) : EncodeLength.Statement (.cc a16) := rfl
theorem EncodeLength.cpo (a16 : Word) : EncodeLength.Statement (.cpo a16) := rfl
theorem EncodeLength.cpe (a16 : Word) : EncodeLength.Statement (.cpe a16) := rfl
theorem EncodeLength.cp (a16 : Word) : EncodeLength.Statement (.cp a16) := rfl
theorem EncodeLength.cm (a16 : Word) : EncodeLength.Statement (.cm a16) := rfl
theorem EncodeLength.ret : EncodeLength.Statement (.ret) := rfl
theorem EncodeLength.rnz : EncodeLength.Statement (.rnz) := rfl
theorem EncodeLength.rz : EncodeLength.Statement (.rz) := rfl
theorem EncodeLength.rnc : EncodeLength.Statement (.rnc) := rfl
theorem EncodeLength.rc : EncodeLength.Statement (.rc) := rfl
theorem EncodeLength.rpo : EncodeLength.Statement (.rpo) := rfl
theorem EncodeLength.rpe : EncodeLength.Statement (.rpe) := rfl
theorem EncodeLength.rp : EncodeLength.Statement (.rp) := rfl
theorem EncodeLength.rm : EncodeLength.Statement (.rm) := rfl
theorem EncodeLength.rst (n : BitVec 3) : EncodeLength.Statement (.rst n) := rfl
theorem EncodeLength.pchl : EncodeLength.Statement (.pchl) := rfl
theorem EncodeLength.push (rp : RegPair) : EncodeLength.Statement (.push rp) := rfl
theorem EncodeLength.pushPsw : EncodeLength.Statement (.pushPsw) := rfl
theorem EncodeLength.pop (rp : RegPair) : EncodeLength.Statement (.pop rp) := rfl
theorem EncodeLength.popPsw : EncodeLength.Statement (.popPsw) := rfl
theorem EncodeLength.xthl : EncodeLength.Statement (.xthl) := rfl
theorem EncodeLength.sphl : EncodeLength.Statement (.sphl) := rfl
theorem EncodeLength.inPort (p8 : Byte) : EncodeLength.Statement (.inPort p8) := rfl
theorem EncodeLength.outPort (p8 : Byte) : EncodeLength.Statement (.outPort p8) := rfl
theorem EncodeLength.ei : EncodeLength.Statement (.ei) := rfl
theorem EncodeLength.di : EncodeLength.Statement (.di) := rfl
theorem EncodeLength.hlt : EncodeLength.Statement (.hlt) := rfl
theorem EncodeLength.nop : EncodeLength.Statement (.nop) := rfl
theorem EncodeLength.nopSyn (y : BitVec 3) : EncodeLength.Statement (.nopSyn y) := rfl
theorem EncodeLength.unimpl (op : NoHandler) : EncodeLength.Statement (.unimpl op) := rfl

end Sys2Proof.Laws
end

