-- ==== Sys2Proof/Tests/Slice0.lean ====
section
/-! SUPPORT. Tests. Expected values come from the spec: the opcode table's bit patterns, the rows of
95_test_vectors.md named at each test, or the rule cited. -/

namespace Sys2Proof.Tests

open Sys2Proof.Machine Sys2Proof.Claims

/-! ### Helpers -/

/-- Whether the bytes are exactly that instruction. -/
def decodesTo (bs : List Byte) (i : Instr) : Bool :=
  match decode bs with
  | .ok (j, []) => j == i
  | _ => false

/-- `s` with the bytes stored at `pc` and `pc` set. -/
def place (s : State) (pc : Word) (bs : List Byte) : State := { s.writeBytes pc bs with pc := pc }

/-- The state after one step. -/
def after (s : State) : State :=
  match step s with
  | .next t => t
  | .fault _ => s
  | .refused _ => s

/-! ### WellFormed refuses each ill-formed term -/

theorem test_wf_push_sp : (Instr.push .SP).wf = false := by decide
theorem test_wf_pop_sp : (Instr.pop .SP).wf = false := by decide
theorem test_wf_stax_hl : (Instr.stax .HL).wf = false := by decide
theorem test_wf_stax_sp : (Instr.stax .SP).wf = false := by decide
theorem test_wf_ldax_hl : (Instr.ldax .HL).wf = false := by decide
theorem test_wf_ldax_sp : (Instr.ldax .SP).wf = false := by decide
theorem test_wf_nop_synonym_zero : (Instr.nopSyn 0).wf = false := by decide
theorem test_wf_accepts : (Instr.push .HL).wf = true ∧ (Instr.stax .DE).wf = true ∧
(Instr.nopSyn 7).wf = true := by
  decide

/-! ### Decoding, each word written out from the bit patterns of the opcode table (R59) -/

/-- Data transfer. -/
theorem test_decode_data_transfer :
    decodesTo [0b01010011] (.movRR .D .E) = true ∧
    decodesTo [0b01001110] (.movRM .C) = true ∧
    decodesTo [0b01110101] (.movMR .L) = true ∧
    decodesTo [0b00011110, 0x12] (.mviR .E 0x12) = true ∧
    decodesTo [0b00110110, 0x34] (.mviM 0x34) = true ∧
    decodesTo [0b00010001, 0x78, 0x56] (.lxi .DE 0x5678) = true ∧
    decodesTo [0b00111010, 0x00, 0x20] (.lda 0x2000) = true ∧
    decodesTo [0b00110010, 0x50, 0x20] (.sta 0x2050) = true ∧
    decodesTo [0b00101010, 0x01, 0x30] (.lhld 0x3001) = true ∧
    decodesTo [0b00100010, 0x02, 0x30] (.shld 0x3002) = true ∧
    decodesTo [0b00001010] (.ldax .BC) = true ∧
    decodesTo [0b00011010] (.ldax .DE) = true ∧
    decodesTo [0b00000010] (.stax .BC) = true ∧
    decodesTo [0b00010010] (.stax .DE) = true ∧
    decodesTo [0b11101011] (.xchg) = true := by
  decide

/-- Arithmetic. -/
theorem test_decode_arithmetic :
    decodesTo [0b10000010] (.addR .D) = true ∧
    decodesTo [0b10000110] (.addM) = true ∧
    decodesTo [0b11000110, 0x42] (.adi 0x42) = true ∧
    decodesTo [0b10001001] (.adcR .C) = true ∧
    decodesTo [0b10001110] (.adcM) = true ∧
    decodesTo [0b11001110, 0xBE] (.aci 0xBE) = true ∧
    decodesTo [0b10010000] (.subR .B) = true ∧
    decodesTo [0b10010110] (.subM) = true ∧
    decodesTo [0b11010110, 0x01] (.sui 0x01) = true ∧
    decodesTo [0b10011101] (.sbbR .L) = true ∧
    decodesTo [0b10011110] (.sbbM) = true ∧
    decodesTo [0b11011110, 0x01] (.sbi 0x01) = true ∧
    decodesTo [0b00111100] (.inrR .A) = true ∧
    decodesTo [0b00110100] (.inrM) = true ∧
    decodesTo [0b00100101] (.dcrR .H) = true ∧
    decodesTo [0b00110101] (.dcrM) = true ∧
    decodesTo [0b00110011] (.inx .SP) = true ∧
    decodesTo [0b00101011] (.dcx .HL) = true ∧
    decodesTo [0b00011001] (.dad .DE) = true ∧
    decodesTo [0b00100111] (.daa) = true := by
  decide

/-- Logical, compare, rotate, carry. -/
theorem test_decode_logical :
    decodesTo [0b10100001] (.anaR .C) = true ∧
    decodesTo [0b10100110] (.anaM) = true ∧
    decodesTo [0b11100110, 0x0F] (.ani 0x0F) = true ∧
    decodesTo [0b10101111] (.xraR .A) = true ∧
    decodesTo [0b10101110] (.xraM) = true ∧
    decodesTo [0b11101110, 0x81] (.xri 0x81) = true ∧
    decodesTo [0b10110100] (.oraR .H) = true ∧
    decodesTo [0b10110110] (.oraM) = true ∧
    decodesTo [0b11110110, 0x0F] (.ori 0x0F) = true ∧
    decodesTo [0b10111011] (.cmpR .E) = true ∧
    decodesTo [0b10111110] (.cmpM) = true ∧
    decodesTo [0b11111110, 0x40] (.cpi 0x40) = true ∧
    decodesTo [0b00000111] (.rlc) = true ∧
    decodesTo [0b00001111] (.rrc) = true ∧
    decodesTo [0b00010111] (.ral) = true ∧
    decodesTo [0b00011111] (.rar) = true ∧
    decodesTo [0b00101111] (.cma) = true ∧
    decodesTo [0b00110111] (.stc) = true ∧
    decodesTo [0b00111111] (.cmc) = true := by
  decide

/-- Jumps. -/
theorem test_decode_jumps :
    decodesTo [0b11000011, 0xCD, 0xAB] (.jmp 0xABCD) = true ∧
    decodesTo [0b11001011, 0xCD, 0xAB] (.jmpAlt 0xABCD) = true ∧
    decodesTo [0b11000010, 0xCD, 0xAB] (.jnz 0xABCD) = true ∧
    decodesTo [0b11001010, 0xCD, 0xAB] (.jz 0xABCD) = true ∧
    decodesTo [0b11010010, 0xCD, 0xAB] (.jnc 0xABCD) = true ∧
    decodesTo [0b11011010, 0xCD, 0xAB] (.jc 0xABCD) = true ∧
    decodesTo [0b11100010, 0xCD, 0xAB] (.jpo 0xABCD) = true ∧
    decodesTo [0b11101010, 0xCD, 0xAB] (.jpe 0xABCD) = true ∧
    decodesTo [0b11110010, 0xCD, 0xAB] (.jp 0xABCD) = true ∧
    decodesTo [0b11111010, 0xCD, 0xAB] (.jm 0xABCD) = true := by
  decide

/-- Calls. -/
theorem test_decode_calls :
    decodesTo [0b11001101, 0xCD, 0xAB] (.call 0xABCD) = true ∧
    decodesTo [0b11000100, 0xCD, 0xAB] (.cnz 0xABCD) = true ∧
    decodesTo [0b11001100, 0xCD, 0xAB] (.cz 0xABCD) = true ∧
    decodesTo [0b11010100, 0xCD, 0xAB] (.cnc 0xABCD) = true ∧
    decodesTo [0b11011100, 0xCD, 0xAB] (.cc 0xABCD) = true ∧
    decodesTo [0b11100100, 0xCD, 0xAB] (.cpo 0xABCD) = true ∧
    decodesTo [0b11101100, 0xCD, 0xAB] (.cpe 0xABCD) = true ∧
    decodesTo [0b11110100, 0xCD, 0xAB] (.cp 0xABCD) = true ∧
    decodesTo [0b11111100, 0xCD, 0xAB] (.cm 0xABCD) = true := by
  decide

/-- Returns, restart, indirect jump. -/
theorem test_decode_returns :
    decodesTo [0b11001001] (.ret) = true ∧
    decodesTo [0b11000000] (.rnz) = true ∧
    decodesTo [0b11001000] (.rz) = true ∧
    decodesTo [0b11010000] (.rnc) = true ∧
    decodesTo [0b11011000] (.rc) = true ∧
    decodesTo [0b11100000] (.rpo) = true ∧
    decodesTo [0b11101000] (.rpe) = true ∧
    decodesTo [0b11110000] (.rp) = true ∧
    decodesTo [0b11111000] (.rm) = true ∧
    decodesTo [0b11011111] (.rst 3) = true ∧
    decodesTo [0b11101001] (.pchl) = true := by
  decide

/-- Stack, ports, machine control. -/
theorem test_decode_stack_io_machine :
    decodesTo [0b11010101] (.push .DE) = true ∧
    decodesTo [0b11110101] (.pushPsw) = true ∧
    decodesTo [0b11100001] (.pop .HL) = true ∧
    decodesTo [0b11110001] (.popPsw) = true ∧
    decodesTo [0b11100011] (.xthl) = true ∧
    decodesTo [0b11111001] (.sphl) = true ∧
    decodesTo [0b11011011, 0x10] (.inPort 0x10) = true ∧
    decodesTo [0b11010011, 0x21] (.outPort 0x21) = true ∧
    decodesTo [0b11111011] (.ei) = true ∧
    decodesTo [0b11110011] (.di) = true ∧
    decodesTo [0b01110110] (.hlt) = true ∧
    decodesTo [0b00000000] (.nop) = true ∧
    decodesTo [0b00101000] (.nopSyn 5) = true ∧
    decodesTo [0b11011001] (.unimpl .xD9) = true ∧
    decodesTo [0b11011101] (.unimpl .xDD) = true ∧
    decodesTo [0b11101101] (.unimpl .xED) = true ∧
    decodesTo [0b11111101] (.unimpl .xFD) = true := by
  decide

/-- A missing operand byte and an empty sequence are rejected by name. -/
theorem test_decode_rejects :
    decode [] = .error .empty ∧ decode [0xC6] = .error (.truncated 0xC6) ∧
    decode [0xC3, 0x00] = .error (.truncated 0xC3) := ⟨rfl, rfl, rfl⟩

/-- The table's numbering: byte 2 is bits 15..8, byte 3 is bits 23..16 (E2). -/
theorem test_decode_table_word :
    decodeTableWord 24 0x805001 = some (.lxi .BC 0x8050) ∧ decodeTableWord 8 0xC3 = some (.jmp 0) ∧
    decodeTableWord 8 0x76 = some .hlt := by
  decide

/-- The instruction placed by `withFetchWord` is the one the next step runs (E2). -/
theorem test_with_fetch_word :
    let t := after (State.reset.withFetchWord 24 0x805001)
    t.b = 0x80 ∧ t.c = 0x50 ∧ t.pc = 0x0003 := by
  decide

/-! ### The encoder -/

/-- Words of E2, E4, E5, E6 and P8. -/
theorem test_encode_words :
    encode (.lxi .BC 0x8050) = [0x01, 0x50, 0x80] ∧ encode (.dad .BC) = [0x09] ∧
    encode (.push .BC) = [0xC5] ∧ encode (.pop .BC) = [0xC1] ∧
    encode (.call 0x0BA3) = [0xCD, 0xA3, 0x0B] ∧ encode (.rst 5) = [0xEF] ∧
    encode .hlt = [0x76] := by
  decide

/-! ### Data transfer: rows of 95_test_vectors.md section 2.1 -/

/-- V2.1.1: MOV B,C. -/
theorem test_V2_1_1_mov_b_c :
    let t := after (place { State.reset with c := 0x9D } 0x0000 [0x41])
    t.b = 0x9D ∧ t.c = 0x9D ∧ t.pc = 0x0001 ∧ t.flags = ⟨false, false, false, false, false⟩ := by
  decide

/-- V2.1.4: MOV L,M. -/
theorem test_V2_1_4_mov_l_m :
    let t := after (place
      { State.reset with h := 0x20, l := 0x10, mem := [(0x2010, 0x99)] }
      0x0000 [0x6E])
    t.l = 0x99 ∧ t.h = 0x20 ∧ t.flags = ⟨false, false, false, false, false⟩ ∧ t.pc = 0x0001 := by
  decide

/-- V2.1.6: MOV M,H. -/
theorem test_V2_1_6_mov_m_h :
    let t := after (place { State.reset with h := 0x24, l := 0x00 } 0x0000 [0x74])
    t.readByte 0x2400 = 0x24 ∧ t.flags = ⟨false, false, false, false, false⟩ ∧ t.pc = 0x0001 := by
  decide

/-- V2.1.7: MVI A,0x88. -/
theorem test_V2_1_7_mvi_a_0x88 :
    let t := after (place State.reset 0x0000 [0x3E, 0x88])
    t.a = 0x88 ∧ t.pc = 0x0002 ∧ t.flags = ⟨false, false, false, false, false⟩ := by
  decide

/-- V2.1.8: MVI M,0xFF. -/
theorem test_V2_1_8_mvi_m_0xff :
    let t := after (place { State.reset with h := 0x21, l := 0x00 } 0x0000 [0x36, 0xFF])
    t.readByte 0x2100 = 0xFF ∧ t.pc = 0x0002 ∧ t.flags = ⟨false, false, false, false, false⟩ := by
  decide

/-- V2.1.9: LXI B,0x8050. -/
theorem test_V2_1_9_lxi_b_0x8050 :
    let t := after (place State.reset 0x0000 [0x01, 0x50, 0x80])
    t.b = 0x80 ∧ t.c = 0x50 ∧ t.pc = 0x0003 ∧ t.flags = ⟨false, false, false, false, false⟩ := by
  decide

/-- V2.1.11: LXI H,0xABCD at pc=0xFFFF. -/
theorem test_V2_1_11_lxi_h_0xabcd_at_pc_0xffff :
    let t := after (place State.reset 0xFFFF [0x21, 0xCD, 0xAB])
    t.h = 0xAB ∧ t.l = 0xCD ∧ t.pc = 0x0002 ∧ t.flags = ⟨false, false, false, false, false⟩ := by
  decide

/-- V2.1.12: LDA 0x2000. -/
theorem test_V2_1_12_lda_0x2000 :
    let t := after (place { State.reset with mem := [(0x2000, 0x7F)] } 0x0000 [0x3A, 0x00, 0x20])
    t.a = 0x7F ∧ t.pc = 0x0003 ∧ t.flags = ⟨false, false, false, false, false⟩ := by
  decide

/-- V2.1.13: STA 0x2050. -/
theorem test_V2_1_13_sta_0x2050 :
    let t := after (place { State.reset with a := 0x0F } 0x0000 [0x32, 0x50, 0x20])
    t.readByte 0x2050 = 0x0F ∧ t.flags = ⟨false, false, false, false, false⟩ ∧ t.pc = 0x0003 := by
  decide

/-- V2.1.15: LHLD 0xFFFF. -/
theorem test_V2_1_15_lhld_0xffff :
    let t := after (place
      { State.reset with mem := [(0x0000, 0x12), (0xFFFF, 0x34)] }
      0x0100 [0x2A, 0xFF, 0xFF])
    t.h = 0x12 ∧ t.l = 0x34 ∧ t.pc = 0x0103 ∧ t.flags = ⟨false, false, false, false, false⟩ := by
  decide

/-- V2.1.16: SHLD 0x3000. -/
theorem test_V2_1_16_shld_0x3000 :
    let t := after (place { State.reset with h := 0xAE, l := 0x29 } 0x0000 [0x22, 0x00, 0x30])
    t.readByte 0x3000 = 0x29 ∧ t.readByte 0x3001 = 0xAE ∧
    t.flags = ⟨false, false, false, false, false⟩ ∧ t.pc = 0x0003 := by
  decide

/-- V2.1.17: LDAX D. -/
theorem test_V2_1_17_ldax_d :
    let t := after (place
      { State.reset with d := 0x1B, e := 0x00, mem := [(0x1B00, 0x42)] }
      0x0000 [0x1A])
    t.a = 0x42 ∧ t.flags = ⟨false, false, false, false, false⟩ ∧ t.pc = 0x0001 := by
  decide

/-- V2.1.18: STAX B. -/
theorem test_V2_1_18_stax_b :
    let t := after (place { State.reset with b := 0x3F, c := 0x16, a := 0x99 } 0x0000 [0x02])
    t.readByte 0x3F16 = 0x99 ∧ t.flags = ⟨false, false, false, false, false⟩ ∧ t.pc = 0x0001 := by
  decide

/-- V2.1.19: XCHG. -/
theorem test_V2_1_19_xchg :
    let t := after (place
      { State.reset with h := 0x00, l := 0xFF, d := 0x33, e := 0x55 }
      0x0000 [0xEB])
    t.h = 0x33 ∧ t.l = 0x55 ∧ t.d = 0x00 ∧ t.e = 0xFF ∧
    t.flags = ⟨false, false, false, false, false⟩ ∧ t.pc = 0x0001 := by
  decide

/-! ### Add and subtract: rows of 95_test_vectors.md section 2.2 -/

/-- V2.2.6: ADD B. -/
theorem test_V2_2_6_add_b :
    let t := after (place { State.reset with a := 0x08, b := 0x08 } 0x0000 [0x80])
    t.a = 0x10 ∧ t.flags = ⟨false, false, true, false, false⟩ ∧ t.pc = 0x0001 := by
  decide

/-- V2.2.3: ADD B. -/
theorem test_V2_2_3_add_b :
    let t := after (place { State.reset with a := 0xFF, b := 0x01 } 0x0000 [0x80])
    t.a = 0x00 ∧ t.flags = ⟨false, true, true, true, true⟩ ∧ t.pc = 0x0001 := by
  decide

/-- V2.2.9: ADD M. -/
theorem test_V2_2_9_add_m :
    let t := after (place
      { State.reset with a := 0x01, h := 0x20, l := 0x00, mem := [(0x2000, 0x7F)] }
      0x0000 [0x86])
    t.a = 0x80 ∧ t.flags = ⟨true, false, true, false, false⟩ ∧ t.pc = 0x0001 := by
  decide

/-- V2.2.10: ADI 0x42. -/
theorem test_V2_2_10_adi_0x42 :
    let t := after (place { State.reset with a := 0x14 } 0x0000 [0xC6, 0x42])
    t.a = 0x56 ∧ t.flags = ⟨false, false, false, true, false⟩ ∧ t.pc = 0x0002 := by
  decide

/-- V2.2.13: ADC B. -/
theorem test_V2_2_13_adc_b :
    let t := after (place
      { State.reset with a := 0xFF, b := 0x00, flags := ⟨false, false, false, false, true⟩ }
      0x0000 [0x88])
    t.a = 0x00 ∧ t.flags = ⟨false, true, true, true, true⟩ ∧ t.pc = 0x0001 := by
  decide

/-- V2.2.12: ADC C. -/
theorem test_V2_2_12_adc_c :
    let t := after (place
      { State.reset with a := 0x42, c := 0x3D, flags := ⟨false, false, false, false, true⟩ }
      0x0000 [0x89])
    t.a = 0x80 ∧ t.flags = ⟨true, false, true, false, false⟩ ∧ t.pc = 0x0001 := by
  decide

/-- V2.2.15: ADC M. -/
theorem test_V2_2_15_adc_m :
    let t := after (place
      { State.reset with a := 0x0F, h := 0x20, l := 0x00, flags := ⟨false, false, false, false, true⟩ }
      0x0000 [0x8E])
    t.a = 0x10 ∧ t.flags = ⟨false, false, true, false, false⟩ ∧ t.pc = 0x0001 := by
  decide

/-- V2.2.16: ACI 0xBE. -/
theorem test_V2_2_16_aci_0xbe :
    let t := after (place { State.reset with a := 0x56 } 0x0000 [0xCE, 0xBE])
    t.a = 0x14 ∧ t.flags = ⟨false, false, true, true, true⟩ ∧ t.pc = 0x0002 := by
  decide

/-- V2.2.18: SUB A. -/
theorem test_V2_2_18_sub_a :
    let t := after (place { State.reset with a := 0x3E } 0x0000 [0x97])
    t.a = 0x00 ∧ t.flags = ⟨false, true, true, true, false⟩ ∧ t.pc = 0x0001 := by
  decide

/-- V2.2.19: SUB B. -/
theorem test_V2_2_19_sub_b :
    let t := after (place { State.reset with a := 0x00, b := 0x01 } 0x0000 [0x90])
    t.a = 0xFF ∧ t.flags = ⟨true, false, false, true, true⟩ ∧ t.pc = 0x0001 := by
  decide

/-- V2.2.24: SUB M. -/
theorem test_V2_2_24_sub_m :
    let t := after (place
      { State.reset with a := 0x50, h := 0x20, l := 0x00, mem := [(0x2000, 0x60)] }
      0x0000 [0x96])
    t.a = 0xF0 ∧ t.flags = ⟨true, false, true, true, true⟩ ∧ t.pc = 0x0001 := by
  decide

/-- V2.2.26: SUI 0x01. -/
theorem test_V2_2_26_sui_0x01 :
    let t := after (place { State.reset with a := 0x00 } 0x0000 [0xD6, 0x01])
    t.a = 0xFF ∧ t.flags = ⟨true, false, false, true, true⟩ ∧ t.pc = 0x0002 := by
  decide

/-- V2.2.28: SBB B. -/
theorem test_V2_2_28_sbb_b :
    let t := after (place
      { State.reset with a := 0x00, b := 0xFF, flags := ⟨false, false, false, false, true⟩ }
      0x0000 [0x98])
    t.a = 0x00 ∧ t.flags = ⟨false, true, false, true, true⟩ ∧ t.pc = 0x0001 := by
  decide

/-- V2.2.27: SBB L. -/
theorem test_V2_2_27_sbb_l :
    let t := after (place
      { State.reset with a := 0x04, l := 0x02, flags := ⟨false, false, false, false, true⟩ }
      0x0000 [0x9D])
    t.a = 0x01 ∧ t.flags = ⟨false, false, true, false, false⟩ ∧ t.pc = 0x0001 := by
  decide

/-- V2.2.33: SBB M. -/
theorem test_V2_2_33_sbb_m :
    let t := after (place
      { State.reset with a := 0x20, h := 0x20, l := 0x00, flags := ⟨false, false, false, false, true⟩, mem := [(0x2000, 0x10)] }
      0x0000 [0x9E])
    t.a = 0x0F ∧ t.flags = ⟨false, false, false, true, false⟩ ∧ t.pc = 0x0001 := by
  decide

/-- V2.2.35: SBI 0x01. -/
theorem test_V2_2_35_sbi_0x01 :
    let t := after (place
      { State.reset with a := 0x00, flags := ⟨false, false, false, false, true⟩ }
      0x0000 [0xDE, 0x01])
    t.a = 0xFE ∧ t.flags = ⟨true, false, false, false, true⟩ ∧ t.pc = 0x0002 := by
  decide

/-! ### Increment, decrement, sixteen-bit arithmetic: rows of 95_test_vectors.md section 2.3 -/

/-- V2.3.4: INR A. -/
theorem test_V2_3_4_inr_a :
    let t := after (place
      { State.reset with a := 0x0F, flags := ⟨false, false, false, false, true⟩ }
      0x0000 [0x3C])
    t.a = 0x10 ∧ t.flags = ⟨false, false, true, false, true⟩ ∧ t.pc = 0x0001 := by
  decide

/-- V2.3.2: INR B. -/
theorem test_V2_3_2_inr_b :
    let t := after (place { State.reset with b := 0xFF } 0x0000 [0x04])
    t.b = 0x00 ∧ t.flags = ⟨false, true, true, true, false⟩ ∧ t.pc = 0x0001 := by
  decide

/-- V2.3.5: INR M. -/
theorem test_V2_3_5_inr_m :
    let t := after (place
      { State.reset with h := 0x20, l := 0x00, mem := [(0x2000, 0x3F)] }
      0x0000 [0x34])
    t.readByte 0x2000 = 0x40 ∧ t.flags = ⟨false, false, true, false, false⟩ ∧ t.pc = 0x0001 := by
  decide

/-- V2.3.9: DCR B. -/
theorem test_V2_3_9_dcr_b :
    let t := after (place
      { State.reset with b := 0x00, flags := ⟨false, false, false, false, true⟩ }
      0x0000 [0x05])
    t.b = 0xFF ∧ t.flags = ⟨true, false, false, true, true⟩ ∧ t.pc = 0x0001 := by
  decide

/-- V2.3.10: DCR A. -/
theorem test_V2_3_10_dcr_a :
    let t := after (place { State.reset with a := 0x10 } 0x0000 [0x3D])
    t.a = 0x0F ∧ t.flags = ⟨false, false, false, true, false⟩ ∧ t.pc = 0x0001 := by
  decide

/-- V2.3.12: DCR M. -/
theorem test_V2_3_12_dcr_m :
    let t := after (place
      { State.reset with h := 0x3A, l := 0x7C, mem := [(0x3A7C, 0x40)] }
      0x0000 [0x35])
    t.readByte 0x3A7C = 0x3F ∧ t.flags = ⟨false, false, false, true, false⟩ ∧ t.pc = 0x0001 := by
  decide

/-- V2.3.13: INX D. -/
theorem test_V2_3_13_inx_d :
    let t := after (place { State.reset with d := 0x38, e := 0xFF } 0x0000 [0x13])
    t.d = 0x39 ∧ t.e = 0x00 ∧ t.flags = ⟨false, false, false, false, false⟩ ∧ t.pc = 0x0001 := by
  decide

/-- V2.3.15: INX SP. -/
theorem test_V2_3_15_inx_sp :
    let t := after (place { State.reset with sp := 0xFFFF } 0x0000 [0x33])
    t.sp = 0x0000 ∧ t.flags = ⟨false, false, false, false, false⟩ ∧ t.pc = 0x0001 := by
  decide

/-- V2.3.16: DCX H. -/
theorem test_V2_3_16_dcx_h :
    let t := after (place { State.reset with h := 0x98, l := 0x00 } 0x0000 [0x2B])
    t.h = 0x97 ∧ t.l = 0xFF ∧ t.flags = ⟨false, false, false, false, false⟩ ∧ t.pc = 0x0001 := by
  decide

/-- V2.3.17: DCX B. -/
theorem test_V2_3_17_dcx_b :
    let t := after (place { State.reset with b := 0x00, c := 0x00 } 0x0000 [0x0B])
    t.b = 0xFF ∧ t.c = 0xFF ∧ t.flags = ⟨false, false, false, false, false⟩ ∧ t.pc = 0x0001 := by
  decide

/-- V2.3.22: DAD D. -/
theorem test_V2_3_22_dad_d :
    let t := after (place
      { State.reset with d := 0x11, e := 0x11, h := 0x12, l := 0x34, flags := ⟨true, true, false, false, true⟩ }
      0x0000 [0x19])
    t.h = 0x23 ∧ t.l = 0x45 ∧ t.flags = ⟨true, true, false, false, false⟩ ∧ t.pc = 0x0001 := by
  decide

/-- V2.3.21: DAD SP. -/
theorem test_V2_3_21_dad_sp :
    let t := after (place { State.reset with h := 0x00, l := 0x01, sp := 0xFFFF } 0x0000 [0x39])
    t.h = 0x00 ∧ t.l = 0x00 ∧ t.sp = 0xFFFF ∧ t.flags = ⟨false, false, false, false, true⟩ ∧
    t.pc = 0x0001 := by
  decide

/-! ### Decimal adjust: rows of 95_test_vectors.md section 2.4 -/

/-- V2.4.1: DAA. -/
theorem test_V2_4_1_daa :
    let t := after (place { State.reset with a := 0x9B } 0x0000 [0x27])
    t.a = 0x01 ∧ t.flags = ⟨false, false, true, false, true⟩ ∧ t.pc = 0x0001 := by
  decide

/-- V2.4.2: DAA. -/
theorem test_V2_4_2_daa :
    let t := after (place
      { State.reset with a := 0x10, flags := ⟨false, false, true, false, true⟩ }
      0x0000 [0x27])
    t.a = 0x76 ∧ t.flags = ⟨false, false, false, false, true⟩ ∧ t.pc = 0x0001 := by
  decide

/-! ### Logical operations and compare: rows of 95_test_vectors.md section 2.5 -/

/-- V2.5.1: ANA C. -/
theorem test_V2_5_1_ana_c :
    let t := after (place
      { State.reset with a := 0xFC, c := 0x0F, flags := ⟨false, false, true, false, true⟩ }
      0x0000 [0xA1])
    t.a = 0x0C ∧ t.flags = ⟨false, false, true, true, false⟩ ∧ t.pc = 0x0001 := by
  decide

/-- V2.5.4: ANA M. -/
theorem test_V2_5_4_ana_m :
    let t := after (place
      { State.reset with a := 0xF0, h := 0x20, l := 0x00, mem := [(0x2000, 0x0F)] }
      0x0000 [0xA6])
    t.a = 0x00 ∧ t.flags = ⟨false, true, false, true, false⟩ ∧ t.pc = 0x0001 := by
  decide

/-- V2.5.5: ANI 0x0F. -/
theorem test_V2_5_5_ani_0x0f :
    let t := after (place
      { State.reset with a := 0x3A, flags := ⟨false, false, false, false, true⟩ }
      0x0000 [0xE6, 0x0F])
    t.a = 0x0A ∧ t.flags = ⟨false, false, false, true, false⟩ ∧ t.pc = 0x0002 := by
  decide

/-- V2.5.6: XRA A. -/
theorem test_V2_5_6_xra_a :
    let t := after (place
      { State.reset with a := 0x5C, flags := ⟨false, false, true, false, true⟩ }
      0x0000 [0xAF])
    t.a = 0x00 ∧ t.flags = ⟨false, true, true, true, false⟩ ∧ t.pc = 0x0001 := by
  decide

/-- V2.5.8: XRA M. -/
theorem test_V2_5_8_xra_m :
    let t := after (place
      { State.reset with a := 0x5C, h := 0x20, l := 0x00, mem := [(0x2000, 0x78)] }
      0x0000 [0xAE])
    t.a = 0x24 ∧ t.flags = ⟨false, false, false, true, false⟩ ∧ t.pc = 0x0001 := by
  decide

/-- V2.5.9: XRI 0x81. -/
theorem test_V2_5_9_xri_0x81 :
    let t := after (place
      { State.reset with a := 0x3B, flags := ⟨false, false, false, false, true⟩ }
      0x0000 [0xEE, 0x81])
    t.a = 0xBA ∧ t.flags = ⟨true, false, false, false, false⟩ ∧ t.pc = 0x0002 := by
  decide

/-- V2.5.11: ORA A. -/
theorem test_V2_5_11_ora_a :
    let t := after (place
      { State.reset with a := 0x00, flags := ⟨false, false, false, false, true⟩ }
      0x0000 [0xB7])
    t.a = 0x00 ∧ t.flags = ⟨false, true, false, true, false⟩ ∧ t.pc = 0x0001 := by
  decide

/-- V2.5.12: ORA M. -/
theorem test_V2_5_12_ora_m :
    let t := after (place
      { State.reset with a := 0x80, h := 0x20, l := 0x00, mem := [(0x2000, 0x01)] }
      0x0000 [0xB6])
    t.a = 0x81 ∧ t.flags = ⟨true, false, false, true, false⟩ ∧ t.pc = 0x0001 := by
  decide

/-- V2.5.13: ORI 0x0F. -/
theorem test_V2_5_13_ori_0x0f :
    let t := after (place
      { State.reset with a := 0xB5, flags := ⟨false, false, false, false, true⟩ }
      0x0000 [0xF6, 0x0F])
    t.a = 0xBF ∧ t.flags = ⟨true, false, false, false, false⟩ ∧ t.pc = 0x0002 := by
  decide

/-- V2.5.15: CMP E. -/
theorem test_V2_5_15_cmp_e :
    let t := after (place { State.reset with a := 0x02, e := 0x05 } 0x0000 [0xBB])
    t.a = 0x02 ∧ t.flags = ⟨true, false, false, false, true⟩ ∧ t.pc = 0x0001 := by
  decide

/-- V2.5.19: CMP B. -/
theorem test_V2_5_19_cmp_b :
    let t := after (place { State.reset with a := 0x80, b := 0x7F } 0x0000 [0xB8])
    t.a = 0x80 ∧ t.flags = ⟨false, false, false, false, false⟩ ∧ t.pc = 0x0001 := by
  decide

/-- V2.5.20: CMP M. -/
theorem test_V2_5_20_cmp_m :
    let t := after (place
      { State.reset with a := 0x10, h := 0x20, l := 0x00, mem := [(0x2000, 0x10)] }
      0x0000 [0xBE])
    t.a = 0x10 ∧ t.flags = ⟨false, true, true, true, false⟩ ∧ t.pc = 0x0001 := by
  decide

/-- V2.5.22: CPI 0x20. -/
theorem test_V2_5_22_cpi_0x20 :
    let t := after (place { State.reset with a := 0x10 } 0x0000 [0xFE, 0x20])
    t.a = 0x10 ∧ t.flags = ⟨true, false, true, true, true⟩ ∧ t.pc = 0x0002 := by
  decide

/-! ### Rotates, complement, carry: rows of 95_test_vectors.md section 2.6 -/

/-- V2.6.1: RLC. -/
theorem test_V2_6_1_rlc :
    let t := after (place { State.reset with a := 0xF2 } 0x0000 [0x07])
    t.a = 0xE5 ∧ t.flags = ⟨false, false, false, false, true⟩ ∧ t.pc = 0x0001 := by
  decide

/-- V2.6.2: RLC. -/
theorem test_V2_6_2_rlc :
    let t := after (place
      { State.reset with a := 0x00, flags := ⟨false, false, false, false, true⟩ }
      0x0000 [0x07])
    t.a = 0x00 ∧ t.flags = ⟨false, false, false, false, false⟩ ∧ t.pc = 0x0001 := by
  decide

/-- V2.6.3: RRC. -/
theorem test_V2_6_3_rrc :
    let t := after (place { State.reset with a := 0xF2 } 0x0000 [0x0F])
    t.a = 0x79 ∧ t.flags = ⟨false, false, false, false, false⟩ ∧ t.pc = 0x0001 := by
  decide

/-- V2.6.4: RRC. -/
theorem test_V2_6_4_rrc :
    let t := after (place { State.reset with a := 0x01 } 0x0000 [0x0F])
    t.a = 0x80 ∧ t.flags = ⟨false, false, false, false, true⟩ ∧ t.pc = 0x0001 := by
  decide

/-- V2.6.5: RAL. -/
theorem test_V2_6_5_ral :
    let t := after (place { State.reset with a := 0xB5 } 0x0000 [0x17])
    t.a = 0x6A ∧ t.flags = ⟨false, false, false, false, true⟩ ∧ t.pc = 0x0001 := by
  decide

/-- V2.6.6: RAL. -/
theorem test_V2_6_6_ral :
    let t := after (place
      { State.reset with a := 0x40, flags := ⟨false, false, false, false, true⟩ }
      0x0000 [0x17])
    t.a = 0x81 ∧ t.flags = ⟨false, false, false, false, false⟩ ∧ t.pc = 0x0001 := by
  decide

/-- V2.6.8: RAR. -/
theorem test_V2_6_8_rar :
    let t := after (place
      { State.reset with a := 0x6A, flags := ⟨false, false, false, false, true⟩ }
      0x0000 [0x1F])
    t.a = 0xB5 ∧ t.flags = ⟨false, false, false, false, false⟩ ∧ t.pc = 0x0001 := by
  decide

/-- V2.6.9: RAR. -/
theorem test_V2_6_9_rar :
    let t := after (place { State.reset with a := 0x01 } 0x0000 [0x1F])
    t.a = 0x00 ∧ t.flags = ⟨false, false, false, false, true⟩ ∧ t.pc = 0x0001 := by
  decide

/-- V2.6.10: CMA. -/
theorem test_V2_6_10_cma :
    let t := after (place { State.reset with a := 0x51 } 0x0000 [0x2F])
    t.a = 0xAE ∧ t.flags = ⟨false, false, false, false, false⟩ ∧ t.pc = 0x0001 := by
  decide

/-- V2.6.12: STC. -/
theorem test_V2_6_12_stc :
    let t := after (place State.reset 0x0000 [0x37])
    t.a = 0x00 ∧ t.flags = ⟨false, false, false, false, true⟩ ∧ t.pc = 0x0001 := by
  decide

/-- V2.6.14: CMC. -/
theorem test_V2_6_14_cmc :
    let t := after (place State.reset 0x0000 [0x3F])
    t.a = 0x00 ∧ t.flags = ⟨false, false, false, false, true⟩ ∧ t.pc = 0x0001 := by
  decide

/-- V2.6.15: CMC. -/
theorem test_V2_6_15_cmc :
    let t := after (place
      { State.reset with flags := ⟨true, true, true, true, true⟩ }
      0x0000 [0x3F])
    t.a = 0x00 ∧ t.flags = ⟨true, true, true, true, false⟩ ∧ t.pc = 0x0001 := by
  decide

/-! ### Control transfer: rows of 95_test_vectors.md section 2.7 -/

/-- V2.7.1: JMP 0x3E00. -/
theorem test_V2_7_1_jmp_0x3e00 :
    let t := after (place State.reset 0x0100 [0xC3, 0x00, 0x3E])
    t.pc = 0x3E00 ∧ t.flags = ⟨false, false, false, false, false⟩ := by
  decide

/-- V2.7.3: JMP 0x5678 across the top. -/
theorem test_V2_7_3_jmp_0x5678_across_the_top :
    let t := after (place State.reset 0xFFFE [0xC3, 0x78, 0x56])
    t.pc = 0x5678 ∧ t.flags = ⟨false, false, false, false, false⟩ := by
  decide

/-- V2.7.2: JMP 0x1234, second encoding. -/
theorem test_V2_7_2_jmp_0x1234 :
    let t := after (place State.reset 0x0100 [0xCB, 0x34, 0x12])
    t.pc = 0x1234 ∧ t.flags = ⟨false, false, false, false, false⟩ := by
  decide

/-- V2.7.4: JNZ 0x2000. -/
theorem test_V2_7_4_jnz_0x2000 :
    let t := after (place State.reset 0x0100 [0xC2, 0x00, 0x20])
    t.pc = 0x2000 ∧ t.flags = ⟨false, false, false, false, false⟩ := by
  decide

/-- V2.7.5: JNZ 0x2000. -/
theorem test_V2_7_5_jnz_0x2000 :
    let t := after (place
      { State.reset with flags := ⟨false, true, false, false, false⟩ }
      0x0100 [0xC2, 0x00, 0x20])
    t.pc = 0x0103 ∧ t.flags = ⟨false, true, false, false, false⟩ := by
  decide

/-- V2.7.6: JZ 0x2000. -/
theorem test_V2_7_6_jz_0x2000 :
    let t := after (place
      { State.reset with flags := ⟨false, true, false, false, false⟩ }
      0x0100 [0xCA, 0x00, 0x20])
    t.pc = 0x2000 ∧ t.flags = ⟨false, true, false, false, false⟩ := by
  decide

/-- V2.7.7: JNC 0x2000. -/
theorem test_V2_7_7_jnc_0x2000 :
    let t := after (place
      { State.reset with flags := ⟨false, false, false, false, true⟩ }
      0x0100 [0xD2, 0x00, 0x20])
    t.pc = 0x0103 ∧ t.flags = ⟨false, false, false, false, true⟩ := by
  decide

/-- V2.7.8: JC 0x2000. -/
theorem test_V2_7_8_jc_0x2000 :
    let t := after (place
      { State.reset with flags := ⟨false, false, false, false, true⟩ }
      0x0100 [0xDA, 0x00, 0x20])
    t.pc = 0x2000 ∧ t.flags = ⟨false, false, false, false, true⟩ := by
  decide

/-- V2.7.9: JPO 0x2000. -/
theorem test_V2_7_9_jpo_0x2000 :
    let t := after (place State.reset 0x0100 [0xE2, 0x00, 0x20])
    t.pc = 0x2000 ∧ t.flags = ⟨false, false, false, false, false⟩ := by
  decide

/-- V2.7.10: JPE 0x2000. -/
theorem test_V2_7_10_jpe_0x2000 :
    let t := after (place State.reset 0x0100 [0xEA, 0x00, 0x20])
    t.pc = 0x0103 ∧ t.flags = ⟨false, false, false, false, false⟩ := by
  decide

/-- V2.7.11: JP 0x2000. -/
theorem test_V2_7_11_jp_0x2000 :
    let t := after (place State.reset 0x0100 [0xF2, 0x00, 0x20])
    t.pc = 0x2000 ∧ t.flags = ⟨false, false, false, false, false⟩ := by
  decide

/-- V2.7.12: JM 0x2000. -/
theorem test_V2_7_12_jm_0x2000 :
    let t := after (place State.reset 0x0100 [0xFA, 0x00, 0x20])
    t.pc = 0x0103 ∧ t.flags = ⟨false, false, false, false, false⟩ := by
  decide

/-- V2.7.13: JM 0x2000. -/
theorem test_V2_7_13_jm_0x2000 :
    let t := after (place
      { State.reset with flags := ⟨true, false, false, false, false⟩ }
      0x0100 [0xFA, 0x00, 0x20])
    t.pc = 0x2000 ∧ t.flags = ⟨true, false, false, false, false⟩ := by
  decide

/-- V2.7.14: CALL 0x0BA3. -/
theorem test_V2_7_14_call_0x0ba3 :
    let t := after (place { State.reset with sp := 0xE000 } 0x0010 [0xCD, 0xA3, 0x0B])
    t.pc = 0x0BA3 ∧ t.sp = 0xDFFE ∧ t.readByte 0xDFFF = 0x00 ∧ t.readByte 0xDFFE = 0x13 ∧
    t.flags = ⟨false, false, false, false, false⟩ := by
  decide

/-- V2.7.15: CALL 0x1000 at the top. -/
theorem test_V2_7_15_call_0x1000_at_the_top :
    let t := after (place { State.reset with sp := 0x2400 } 0xFFFD [0xCD, 0x00, 0x10])
    t.pc = 0x1000 ∧ t.sp = 0x23FE ∧ t.readByte 0x23FF = 0x00 ∧ t.readByte 0x23FE = 0x00 ∧
    t.flags = ⟨false, false, false, false, false⟩ := by
  decide

/-- V2.7.16: CNZ 0x3000, taken. -/
theorem test_V2_7_16_cnz_0x3000 :
    let t := after (place { State.reset with sp := 0x2400 } 0x0200 [0xC4, 0x00, 0x30])
    t.pc = 0x3000 ∧ t.sp = 0x23FE ∧ t.readByte 0x23FF = 0x02 ∧ t.readByte 0x23FE = 0x03 ∧
    t.flags = ⟨false, false, false, false, false⟩ := by
  decide

/-- V2.7.17: CNZ 0x3000, not taken. -/
theorem test_V2_7_17_cnz_0x3000 :
    let t := after (place
      { State.reset with sp := 0x2400, flags := ⟨false, true, false, false, false⟩ }
      0x0200 [0xC4, 0x00, 0x30])
    t.pc = 0x0203 ∧ t.sp = 0x2400 ∧ t.flags = ⟨false, true, false, false, false⟩ := by
  decide

/-- V2.7.18: CM 0x3000, taken. -/
theorem test_V2_7_18_cm_0x3000 :
    let t := after (place
      { State.reset with sp := 0x2400, flags := ⟨true, false, false, false, false⟩ }
      0x0200 [0xFC, 0x00, 0x30])
    t.pc = 0x3000 ∧ t.sp = 0x23FE ∧ t.readByte 0x23FF = 0x02 ∧ t.readByte 0x23FE = 0x03 ∧
    t.flags = ⟨true, false, false, false, false⟩ := by
  decide

/-- V2.7.19: CPE 0x3000, not taken. -/
theorem test_V2_7_19_cpe_0x3000 :
    let t := after (place { State.reset with sp := 0x2400 } 0x0200 [0xEC, 0x00, 0x30])
    t.pc = 0x0203 ∧ t.sp = 0x2400 ∧ t.flags = ⟨false, false, false, false, false⟩ := by
  decide

/-- V2.7.20: RET. -/
theorem test_V2_7_20_ret :
    let t := after (place
      { State.reset with sp := 0xDFFE, mem := [(0xDFFE, 0x13)] }
      0x0BA3 [0xC9])
    t.pc = 0x0013 ∧ t.sp = 0xE000 ∧ t.flags = ⟨false, false, false, false, false⟩ := by
  decide

/-- V2.7.21: RZ, taken. -/
theorem test_V2_7_21_rz :
    let t := after (place
      { State.reset with sp := 0x23FE, flags := ⟨false, true, false, false, false⟩, mem :=
        [(0x23FE, 0x03), (0x23FF, 0x01)] }
      0x0500 [0xC8])
    t.pc = 0x0103 ∧ t.sp = 0x2400 ∧ t.flags = ⟨false, true, false, false, false⟩ := by
  decide

/-- V2.7.22: RZ, not taken. -/
theorem test_V2_7_22_rz :
    let t := after (place
      { State.reset with sp := 0x23FE, mem := [(0x23FE, 0x03), (0x23FF, 0x01)] }
      0x0500 [0xC8])
    t.pc = 0x0501 ∧ t.sp = 0x23FE ∧ t.flags = ⟨false, false, false, false, false⟩ := by
  decide

/-- V2.7.23: RC, taken, stack across the top. -/
theorem test_V2_7_23_rc :
    let t := after (place
      { State.reset with sp := 0xFFFF, flags := ⟨false, false, false, false, true⟩, mem :=
        [(0x0000, 0x55), (0xFFFF, 0x44)] }
      0x0500 [0xD8])
    t.pc = 0x5544 ∧ t.sp = 0x0001 ∧ t.flags = ⟨false, false, false, false, true⟩ := by
  decide

/-- V2.7.24: RST 2. -/
theorem test_V2_7_24_rst_2 :
    let t := after (place { State.reset with sp := 0x2400 } 0x1234 [0xD7])
    t.pc = 0x0010 ∧ t.sp = 0x23FE ∧ t.readByte 0x23FF = 0x12 ∧ t.readByte 0x23FE = 0x35 ∧
    t.flags = ⟨false, false, false, false, false⟩ := by
  decide

/-- V2.7.25: RST 7, stack across the bottom. -/
theorem test_V2_7_25_rst_7 :
    let t := after (place { State.reset with sp := 0x0001 } 0x1234 [0xFF])
    t.pc = 0x0038 ∧ t.sp = 0xFFFF ∧ t.readByte 0x0000 = 0x12 ∧ t.readByte 0xFFFF = 0x35 ∧
    t.flags = ⟨false, false, false, false, false⟩ := by
  decide

/-- V2.7.27: PCHL. -/
theorem test_V2_7_27_pchl :
    let t := after (place { State.reset with h := 0x41, l := 0x3E } 0x0100 [0xE9])
    t.pc = 0x413E ∧ t.flags = ⟨false, false, false, false, false⟩ := by
  decide

/-! ### Stack, ports, machine control: rows of 95_test_vectors.md section 2.8 -/

/-- V2.8.1: PUSH B. -/
theorem test_V2_8_1_push_b :
    let t := after (place { State.reset with b := 0x8F, c := 0x9D, sp := 0x3A2C } 0x0000 [0xC5])
    t.sp = 0x3A2A ∧ t.readByte 0x3A2B = 0x8F ∧ t.readByte 0x3A2A = 0x9D ∧
    t.flags = ⟨false, false, false, false, false⟩ ∧ t.pc = 0x0001 := by
  decide

/-- V2.8.3: PUSH H, stack across the bottom. -/
theorem test_V2_8_3_push_h_stack_across_the_bottom :
    let t := after (place { State.reset with h := 0x12, l := 0x34, sp := 0x0001 } 0x0100 [0xE5])
    t.sp = 0xFFFF ∧ t.readByte 0x0000 = 0x12 ∧ t.readByte 0xFFFF = 0x34 ∧
    t.flags = ⟨false, false, false, false, false⟩ ∧ t.pc = 0x0101 := by
  decide

/-- V2.8.4: PUSH PSW. -/
theorem test_V2_8_4_push_psw :
    let t := after (place
      { State.reset with a := 0x1F, sp := 0x502A, flags := ⟨false, true, false, true, true⟩ }
      0x0000 [0xF5])
    t.sp = 0x5028 ∧ t.readByte 0x5029 = 0x1F ∧ t.readByte 0x5028 = 0x47 ∧
    t.flags = ⟨false, true, false, true, true⟩ ∧ t.pc = 0x0001 := by
  decide

/-- V2.8.5: PUSH PSW, all flags 0. -/
theorem test_V2_8_5_push_psw_all_flags_0 :
    let t := after (place { State.reset with a := 0xAB, sp := 0x3000 } 0x0000 [0xF5])
    t.sp = 0x2FFE ∧ t.readByte 0x2FFF = 0xAB ∧ t.readByte 0x2FFE = 0x02 ∧
    t.flags = ⟨false, false, false, false, false⟩ ∧ t.pc = 0x0001 := by
  decide

/-- V2.8.6: POP B. -/
theorem test_V2_8_6_pop_b :
    let t := after (place
      { State.reset with sp := 0x3A2A, mem := [(0x3A2A, 0x9D), (0x3A2B, 0x8F)] }
      0x0000 [0xC1])
    t.b = 0x8F ∧ t.c = 0x9D ∧ t.sp = 0x3A2C ∧ t.flags = ⟨false, false, false, false, false⟩ ∧
    t.pc = 0x0001 := by
  decide

/-- V2.8.7: POP H. -/
theorem test_V2_8_7_pop_h :
    let t := after (place
      { State.reset with sp := 0x1239, mem := [(0x1239, 0x3D), (0x123A, 0x93)] }
      0x0000 [0xE1])
    t.h = 0x93 ∧ t.l = 0x3D ∧ t.sp = 0x123B ∧ t.flags = ⟨false, false, false, false, false⟩ ∧
    t.pc = 0x0001 := by
  decide

/-- V2.8.8: POP PSW. -/
theorem test_V2_8_8_pop_psw :
    let t := after (place
      { State.reset with sp := 0x2C00, mem := [(0x2C00, 0xC3), (0x2C01, 0xFF)] }
      0x0000 [0xF1])
    t.a = 0xFF ∧ t.sp = 0x2C02 ∧ t.flags = ⟨true, true, false, false, true⟩ ∧ t.pc = 0x0001 := by
  decide

/-- V2.8.9: POP PSW, byte 0xFF. -/
theorem test_V2_8_9_pop_psw_byte_0xff :
    let t := after (place
      { State.reset with sp := 0x2C00, mem := [(0x2C00, 0xFF), (0x2C01, 0x12)] }
      0x0000 [0xF1])
    t.a = 0x12 ∧ t.flags = ⟨true, true, true, true, true⟩ ∧ t.pc = 0x0001 := by
  decide

/-- V2.8.11: XTHL. -/
theorem test_V2_8_11_xthl :
    let t := after (place
      { State.reset with sp := 0x10AD, h := 0x0B, l := 0x3C, mem :=
        [(0x10AD, 0xF0), (0x10AE, 0x0D)] }
      0x0000 [0xE3])
    t.h = 0x0D ∧ t.l = 0xF0 ∧ t.readByte 0x10AD = 0x3C ∧ t.readByte 0x10AE = 0x0B ∧
    t.sp = 0x10AD ∧ t.flags = ⟨false, false, false, false, false⟩ ∧ t.pc = 0x0001 := by
  decide

/-- V2.8.12: SPHL. -/
theorem test_V2_8_12_sphl :
    let t := after (place { State.reset with h := 0x50, l := 0x6C } 0x0000 [0xF9])
    t.sp = 0x506C ∧ t.flags = ⟨false, false, false, false, false⟩ ∧ t.pc = 0x0001 := by
  decide

/-- V2.8.13: OUT 0x10. -/
theorem test_V2_8_13_out_0x10 :
    let t := after (place { State.reset with a := 0x77 } 0x0000 [0xD3, 0x10])
    t.pc = 0x0002 ∧ t.a = 0x77 ∧ t.flags = ⟨false, false, false, false, false⟩ := by
  decide

/-- V2.8.14: IN 0x01. -/
theorem test_V2_8_14_in_0x01 :
    let t := after (place { State.reset with a := 0x77 } 0x0000 [0xDB, 0x01])
    t.pc = 0x0002 ∧ t.a = 0x77 ∧ t.flags = ⟨false, false, false, false, false⟩ := by
  decide

/-- V2.8.15: EI. -/
theorem test_V2_8_15_ei :
    let t := after (place { State.reset with inte := false } 0x0000 [0xFB])
    t.inte = true ∧ t.flags = ⟨false, false, false, false, false⟩ ∧ t.pc = 0x0001 := by
  decide

/-- V2.8.16: DI. -/
theorem test_V2_8_16_di :
    let t := after (place { State.reset with inte := true } 0x0000 [0xF3])
    t.inte = false ∧ t.flags = ⟨false, false, false, false, false⟩ ∧ t.pc = 0x0001 := by
  decide

/-- V2.8.17: HLT. -/
theorem test_V2_8_17_hlt :
    let t := after (place State.reset 0x0020 [0x76])
    t.halted = true ∧ t.pc = 0x0021 ∧ t.flags = ⟨false, false, false, false, false⟩ := by
  decide

/-- V2.8.18: NOP at the top. -/
theorem test_V2_8_18_nop_at_the_top :
    let t := after (place State.reset 0xFFFF [0x00])
    t.pc = 0x0000 ∧ t.flags = ⟨false, false, false, false, false⟩ := by
  decide

/-- V2.8.19: NOP synonym. -/
theorem test_V2_8_19_nop_synonym :
    let t := after (place State.reset 0x0000 [0x08])
    t.pc = 0x0001 ∧ t.unimpl = false ∧ t.flags = ⟨false, false, false, false, false⟩ := by
  decide

/-- V2.8.20: no handler. -/
theorem test_V2_8_20_no_handler :
    let t := after (place
      { State.reset with sp := 0x2000, mem := [(0x2000, 0x34), (0x2001, 0x12)] }
      0x0000 [0xD9])
    t.unimpl = true ∧ t.pc = 0x0001 ∧ t.sp = 0x2000 ∧
    t.flags = ⟨false, false, false, false, false⟩ := by
  decide

/-- V2.8.21: no handler. -/
theorem test_V2_8_21_no_handler :
    let t := after (place { State.reset with sp := 0x2000 } 0x0100 [0xDD, 0x00, 0x05])
    t.unimpl = true ∧ t.pc = 0x0101 ∧ t.sp = 0x2000 ∧
    t.flags = ⟨false, false, false, false, false⟩ := by
  decide

/-! ### Conditional calls and returns that no vector shows taken (R160, R172 to R187) -/

theorem test_taken_cz :
    let t := after (place
      { State.reset with sp := 0x2400, flags := ⟨false, true, false, false, false⟩ }
      0x0200 [0xCC, 0x00, 0x30])
    t.pc = 0x3000 ∧ t.sp = 0x23FE ∧ t.readByte 0x23FF = 0x02 ∧ t.readByte 0x23FE = 0x03 := by
  decide

theorem test_taken_cnc :
    let t := after (place
      { State.reset with sp := 0x2400 }
      0x0200 [0xD4, 0x00, 0x30])
    t.pc = 0x3000 ∧ t.sp = 0x23FE ∧ t.readByte 0x23FF = 0x02 ∧ t.readByte 0x23FE = 0x03 := by
  decide

theorem test_taken_cc :
    let t := after (place
      { State.reset with sp := 0x2400, flags := ⟨false, false, false, false, true⟩ }
      0x0200 [0xDC, 0x00, 0x30])
    t.pc = 0x3000 ∧ t.sp = 0x23FE ∧ t.readByte 0x23FF = 0x02 ∧ t.readByte 0x23FE = 0x03 := by
  decide

theorem test_taken_cpo :
    let t := after (place
      { State.reset with sp := 0x2400 }
      0x0200 [0xE4, 0x00, 0x30])
    t.pc = 0x3000 ∧ t.sp = 0x23FE ∧ t.readByte 0x23FF = 0x02 ∧ t.readByte 0x23FE = 0x03 := by
  decide

theorem test_taken_cpe :
    let t := after (place
      { State.reset with sp := 0x2400, flags := ⟨false, false, false, true, false⟩ }
      0x0200 [0xEC, 0x00, 0x30])
    t.pc = 0x3000 ∧ t.sp = 0x23FE ∧ t.readByte 0x23FF = 0x02 ∧ t.readByte 0x23FE = 0x03 := by
  decide

theorem test_taken_cp :
    let t := after (place
      { State.reset with sp := 0x2400 }
      0x0200 [0xF4, 0x00, 0x30])
    t.pc = 0x3000 ∧ t.sp = 0x23FE ∧ t.readByte 0x23FF = 0x02 ∧ t.readByte 0x23FE = 0x03 := by
  decide

theorem test_taken_rnz :
    let t := after (place
      { State.reset with sp := 0x23FE, mem := [(0x23FE, 0x03), (0x23FF, 0x01)] }
      0x0500 [0xC0])
    t.pc = 0x0103 ∧ t.sp = 0x2400 := by
  decide

theorem test_taken_rnc :
    let t := after (place
      { State.reset with sp := 0x23FE, mem := [(0x23FE, 0x03), (0x23FF, 0x01)] }
      0x0500 [0xD0])
    t.pc = 0x0103 ∧ t.sp = 0x2400 := by
  decide

theorem test_taken_rpo :
    let t := after (place
      { State.reset with sp := 0x23FE, mem := [(0x23FE, 0x03), (0x23FF, 0x01)] }
      0x0500 [0xE0])
    t.pc = 0x0103 ∧ t.sp = 0x2400 := by
  decide

theorem test_taken_rpe :
    let t := after (place
      { State.reset with sp := 0x23FE, mem :=
        [(0x23FE, 0x03), (0x23FF, 0x01)], flags := ⟨false, false, false, true, false⟩ }
      0x0500 [0xE8])
    t.pc = 0x0103 ∧ t.sp = 0x2400 := by
  decide

theorem test_taken_rp :
    let t := after (place
      { State.reset with sp := 0x23FE, mem := [(0x23FE, 0x03), (0x23FF, 0x01)] }
      0x0500 [0xF0])
    t.pc = 0x0103 ∧ t.sp = 0x2400 := by
  decide

theorem test_taken_rm :
    let t := after (place
      { State.reset with sp := 0x23FE, mem :=
        [(0x23FE, 0x03), (0x23FF, 0x01)], flags := ⟨true, false, false, false, false⟩ }
      0x0500 [0xF8])
    t.pc = 0x0103 ∧ t.sp = 0x2400 := by
  decide

/-! ### The ports with the bridge present -/

/-- The state of the port tests. -/
def bridged : State :=
  { State.reset with a := 0x77, params := { intAckClearsInte := false, ioBridge := .present } }

/-- V2.8.13, `present`: the event IoOut(0x10, 0x77). -/
theorem test_out_present :
    let t := after (place bridged 0x0000 [0xD3, 0x10])
    t.env.outs = [(0x10, 0x77)] ∧ t.pc = 0x0002 ∧ t.a = 0x77 := by
  decide

/-- V2.8.14, `present`: A is the environment's answer, whatever it is (R220). -/
theorem test_in_present :
    (after (place bridged 0x0000 [0xDB, 0x01])).a = Config.ioAnswer 0 0x01 ∧
    (after (place bridged 0x0000 [0xDB, 0x01])).env.inCount = 1 := ⟨rfl, rfl⟩

/-! ### Interrupts: rows of 95_test_vectors.md section 2.9 -/

/-- The state of V2.9.1; `c` is the parameter, `i` is INTE. -/
def asked (c i : Bool) (v : BitVec 3) : State :=
  { State.reset with
    pc := 0x1A2B, sp := 0x2400, inte := i, params := { intAckClearsInte := c, ioBridge := .absent }
    env := { turns := [.request v], inCount := 0, outs := [] } }

/-- V2.9.1. -/
theorem test_V2_9_1_request_accepted :
    let t := after (asked false true 2)
    t.pc = 0x0010 ∧ t.sp = 0x23FE ∧ t.readByte 0x23FF = 0x1A ∧ t.readByte 0x23FE = 0x2B ∧
    t.inte = true := by
  decide

/-- V2.9.2. -/
theorem test_V2_9_2_request_clears_inte :
    let t := after (asked true true 2)
    t.pc = 0x0010 ∧ t.sp = 0x23FE ∧ t.inte = false := by
  decide

/-- V2.9.3. -/
theorem test_V2_9_3_request_ignored :
    let t := after (asked false false 5)
    t.pc = 0x1A2B ∧ t.sp = 0x2400 ∧ t.mem = [] ∧ t.inte = false := by
  decide

/-- V2.9.4: the stack wraps. -/
theorem test_V2_9_4_request_wraps :
    let t := { State.reset with pc := 0x0150, inte := true }.request 0
    t.pc = 0x0000 ∧ t.sp = 0xFFFE ∧ t.readByte 0xFFFF = 0x01 ∧ t.readByte 0xFFFE = 0x50 := by
  decide

/-- V2.9.6: a delivery does not clear HALTED. -/
theorem test_V2_9_6_request_while_halted :
    let t := { State.reset with pc := 0x0021, sp := 0x2400, inte := true, halted := true }.request 3
    t.pc = 0x0018 ∧ t.readByte 0x23FE = 0x21 ∧ t.halted = true := by
  decide

/-- V2.10.3 to V2.10.7. -/
theorem test_V2_10_psw :
    (Flags.mk false false false false false).toPsw = 0x02 ∧
    (Flags.mk true true true true true).toPsw = 0xD7 ∧
    (Flags.mk true false false false false).toPsw = 0x82 ∧
    (Flags.mk false true false false false).toPsw = 0x42 ∧
    (Flags.mk false false true false false).toPsw = 0x12 ∧
    (Flags.mk false false false true false).toPsw = 0x06 ∧
    (Flags.mk false false false false true).toPsw = 0x03 ∧ Flags.ofPsw 0x28 = Flags.clear := by
  decide

/-! ### Witnesses: states and operands that meet the hypotheses of the statements -/

/-- All flags clear. -/
def f0 : Flags := Flags.clear

/-- All flags set. -/
def f1 : Flags := ⟨true, true, true, true, true⟩

/-- A state whose stack and HL point at the ends of memory. -/
def edge : State :=
  { State.reset with a := 0x99, h := 0xFF, l := 0xFF, sp := 0x0001, pc := 0xFFFE, flags := f1, inte := true }

/-- `edge` with the environment's turns `ts`. -/
def edgeTurns (ts : List Turn) : State := edge.withTurns ts

theorem witness_DecodeOfEncodeIsTheInstruction : (Instr.nopSyn 7).wf = true ∧
(Instr.push .HL).wf = true := by
  decide

theorem witness_EncodeOfDecodeIsTheBytes : decode
  [0x31, 0x00, 0x24, 0x76] = .ok (.lxi .SP 0x2400, [0x76]) := rfl

/-- One opcode of each length, with operand bytes that may and may not differ. -/
theorem witness_OpcodeAloneFixesTheLength :
    lengthOf 0x76 = 1 ∧ lengthOf 0xC6 = 2 ∧ lengthOf 0xCB = 3 ∧ lengthOf 0xDD = 1 := by
  decide

theorem witness_StepRunsTheDecodedInstruction :
    let s := place State.reset 0xFFFF [0x21, 0xCD, 0xAB]
    decode [s.readByte s.pc, s.readByte (s.pc + 1), s.readByte (s.pc + 2)] = .ok (.lxi .HL 0xABCD, []) ∧
    s.env.turns = [] ∧ (s.withTurns [.engine]).env.turns = [.engine] := ⟨rfl, rfl, rfl⟩

theorem witness_EveryInstructionMovesSpAsTheRulesSay :
    (Instr.pop .BC).wf = true ∧ (Instr.lxi .SP 0).wf = true ∧ spAfter (.pop .BC) edge = 0x0003 ∧
    spAfter (.push .BC) edge = 0xFFFF ∧ spAfter (.cz 0) edge = 0xFFFF ∧
    spAfter (.cnz 0) edge = 0x0001 := by
  decide

theorem witness_StoresAndRegistersOnlyWhereTheRulesSay :
    (∃ t, exec (.shld 0xFFFF) edge = .next t) ∧ storedAt (.shld 0xFFFF) edge = [0xFFFF, 0x0000] ∧
    (∃ t, exec .xthl edge = .next t) ∧ storedAt (.cz 0) edge = [0x0000, 0xFFFF] ∧
    storedAt (.cnz 0) edge = [] :=
  ⟨⟨_, rfl⟩, by decide, ⟨_, rfl⟩, by decide, by decide⟩

theorem witness_DirectAndIndirectMovesOfA :
    (Instr.ldax .BC).wf = true ∧ (Instr.ldax .DE).wf = true ∧ (Instr.stax .BC).wf = true ∧
    (Instr.stax .DE).wf = true := by
  decide

theorem witness_AddWritesTheSumAndAllFiveFlags :
    AddForm edge (.addR .A) [0x87] 0x99 false ∧ AddForm edge .addM [0x86] 0x00 false ∧
    AddForm edge (.adi 0xFF) [0xC6, 0xFF] 0xFF false ∧ AddForm edge (.adcR .L) [0x8D] 0xFF true ∧
    AddForm edge .adcM [0x8E] 0x00 true ∧ AddForm edge (.aci 0xFF) [0xCE, 0xFF] 0xFF true :=
  ⟨.addR .A, .addM, .adi _, .adcR .L, .adcM, .aci _⟩

theorem witness_SubWritesTheDifferenceAndAllFiveFlags :
    SubForm edge (.subR .A) [0x97] 0x99 false ∧ SubForm edge .subM [0x96] 0x00 false ∧
    SubForm edge (.sui 0xFF) [0xD6, 0xFF] 0xFF false ∧ SubForm edge (.sbbR .L) [0x9D] 0xFF true ∧
    SubForm edge .sbbM [0x9E] 0x00 true ∧ SubForm edge (.sbi 0xFF) [0xDE, 0xFF] 0xFF true :=
  ⟨.subR .A, .subM, .sui _, .sbbR .L, .sbbM, .sbi _⟩

theorem witness_LogicWritesTheBitwiseResult :
    LogicForm edge (.anaR .B) [0xA0] 0x00 (· && ·) ∧ LogicForm edge .anaM [0xA6] 0x00 (· && ·) ∧
    LogicForm edge (.ani 0x0F) [0xE6, 0x0F] 0x0F (· && ·) ∧
    LogicForm edge (.xraR .A) [0xAF] 0x99 (· != ·) ∧
    LogicForm edge .xraM [0xAE] 0x00 (· != ·) ∧
    LogicForm edge (.xri 0x81) [0xEE, 0x81] 0x81 (· != ·) ∧
    LogicForm edge (.oraR .L) [0xB5] 0xFF (· || ·) ∧ LogicForm edge .oraM [0xB6] 0x00 (· || ·) ∧
    LogicForm edge (.ori 0x0F) [0xF6, 0x0F] 0x0F (· || ·) :=
  ⟨.anaR .B, .anaM, .ani _, .xraR .A, .xraM, .xri _, .oraR .L, .oraM, .ori _⟩

theorem witness_CompareWritesOnlyFlags :
    CompareForm edge (.cmpR .A) [0xBF] 0x99 ∧ CompareForm edge .cmpM [0xBE] 0x00 ∧
    CompareForm edge (.cpi 0xFF) [0xFE, 0xFF] 0xFF :=
  ⟨.cmpR .A, .cmpM, .cpi _⟩

theorem witness_InrAndDcrCountAByte :
    (∃ ac, CountRegForm (.inrR .L) 0x2C .L 1 ac) ∧ (∃ ac, CountRegForm (.dcrR .B) 0x05 .B (-1) ac) ∧
    (∃ ac, CountMemForm .inrM 0x34 1 ac) ∧ ∃ ac, CountMemForm .dcrM 0x35 (-1) ac :=
  ⟨⟨_, .inr .L⟩, ⟨_, .dcr .B⟩, ⟨_, .inr⟩, ⟨_, .dcr⟩⟩

/-- Each clause of the DAA statement: a stage that runs and one that does not. -/
theorem witness_DaaIsTheTwoStageFixup :
    (edge.a.toNat % 16 > 9 ∨ edge.flags.ac = true) ∧
    ¬ (State.reset.a.toNat % 16 > 9 ∨ State.reset.flags.ac = true) ∧
    edge.flags.cy = true ∧ ¬ (State.reset.a.toNat / 16 > 9 ∨ State.reset.flags.cy = true) := by
  decide

theorem witness_PackedDecimalAdditionWithCarry : edge.a = bcd 99 ∧ State.reset.a = bcd 0 := by
  decide

/-- Every form, with the flags all clear: each condition holds or fails. -/
theorem witness_JumpsGoToTheTargetWhenTheConditionHolds_clear :
    JumpForm f0 (.jmp 0xFFFF) 0xC3 0xFFFF True ∧
    JumpForm f0 (.jmpAlt 0xFFFF) 0xCB 0xFFFF True ∧
    JumpForm f0 (.jnz 0xFFFF) 0xC2 0xFFFF (f0.z = false) ∧
    f0.z = false ∧
    JumpForm f0 (.jz 0xFFFF) 0xCA 0xFFFF (f0.z = true) ∧
    ¬ f0.z = true ∧
    JumpForm f0 (.jnc 0xFFFF) 0xD2 0xFFFF (f0.cy = false) ∧
    f0.cy = false ∧
    JumpForm f0 (.jc 0xFFFF) 0xDA 0xFFFF (f0.cy = true) ∧
    ¬ f0.cy = true ∧
    JumpForm f0 (.jpo 0xFFFF) 0xE2 0xFFFF (f0.p = false) ∧
    f0.p = false ∧
    JumpForm f0 (.jpe 0xFFFF) 0xEA 0xFFFF (f0.p = true) ∧
    ¬ f0.p = true ∧
    JumpForm f0 (.jp 0xFFFF) 0xF2 0xFFFF (f0.s = false) ∧
    f0.s = false ∧
    JumpForm f0 (.jm 0xFFFF) 0xFA 0xFFFF (f0.s = true) ∧
    ¬ f0.s = true :=
  ⟨.jmp _, .jmpAlt _, .jnz _, by decide, .jz _, by decide, .jnc _, by decide, .jc _,
    by decide, .jpo _, by decide, .jpe _, by decide, .jp _, by decide, .jm _, by decide⟩

/-- Every form, with the flags all set: each condition holds or fails. -/
theorem witness_JumpsGoToTheTargetWhenTheConditionHolds_set :
    JumpForm f1 (.jmp 0xFFFF) 0xC3 0xFFFF True ∧
    JumpForm f1 (.jmpAlt 0xFFFF) 0xCB 0xFFFF True ∧
    JumpForm f1 (.jnz 0xFFFF) 0xC2 0xFFFF (f1.z = false) ∧
    ¬ f1.z = false ∧
    JumpForm f1 (.jz 0xFFFF) 0xCA 0xFFFF (f1.z = true) ∧
    f1.z = true ∧
    JumpForm f1 (.jnc 0xFFFF) 0xD2 0xFFFF (f1.cy = false) ∧
    ¬ f1.cy = false ∧
    JumpForm f1 (.jc 0xFFFF) 0xDA 0xFFFF (f1.cy = true) ∧
    f1.cy = true ∧
    JumpForm f1 (.jpo 0xFFFF) 0xE2 0xFFFF (f1.p = false) ∧
    ¬ f1.p = false ∧
    JumpForm f1 (.jpe 0xFFFF) 0xEA 0xFFFF (f1.p = true) ∧
    f1.p = true ∧
    JumpForm f1 (.jp 0xFFFF) 0xF2 0xFFFF (f1.s = false) ∧
    ¬ f1.s = false ∧
    JumpForm f1 (.jm 0xFFFF) 0xFA 0xFFFF (f1.s = true) ∧
    f1.s = true :=
  ⟨.jmp _, .jmpAlt _, .jnz _, by decide, .jz _, by decide, .jnc _, by decide, .jc _,
    by decide, .jpo _, by decide, .jpe _, by decide, .jp _, by decide, .jm _, by decide⟩

/-- Every form, with the flags all clear: each condition holds or fails. -/
theorem witness_CallsPushTheReturnAddress_clear :
    CallForm f0 (.call 0xFFFF) 0xCD 0xFFFF True ∧
    CallForm f0 (.cnz 0xFFFF) 0xC4 0xFFFF (f0.z = false) ∧
    f0.z = false ∧
    CallForm f0 (.cz 0xFFFF) 0xCC 0xFFFF (f0.z = true) ∧
    ¬ f0.z = true ∧
    CallForm f0 (.cnc 0xFFFF) 0xD4 0xFFFF (f0.cy = false) ∧
    f0.cy = false ∧
    CallForm f0 (.cc 0xFFFF) 0xDC 0xFFFF (f0.cy = true) ∧
    ¬ f0.cy = true ∧
    CallForm f0 (.cpo 0xFFFF) 0xE4 0xFFFF (f0.p = false) ∧
    f0.p = false ∧
    CallForm f0 (.cpe 0xFFFF) 0xEC 0xFFFF (f0.p = true) ∧
    ¬ f0.p = true ∧
    CallForm f0 (.cp 0xFFFF) 0xF4 0xFFFF (f0.s = false) ∧
    f0.s = false ∧
    CallForm f0 (.cm 0xFFFF) 0xFC 0xFFFF (f0.s = true) ∧
    ¬ f0.s = true :=
  ⟨.call _, .cnz _, by decide, .cz _, by decide, .cnc _, by decide, .cc _, by decide, .cpo _,
    by decide, .cpe _, by decide, .cp _, by decide, .cm _, by decide⟩

/-- Every form, with the flags all set: each condition holds or fails. -/
theorem witness_CallsPushTheReturnAddress_set :
    CallForm f1 (.call 0xFFFF) 0xCD 0xFFFF True ∧
    CallForm f1 (.cnz 0xFFFF) 0xC4 0xFFFF (f1.z = false) ∧
    ¬ f1.z = false ∧
    CallForm f1 (.cz 0xFFFF) 0xCC 0xFFFF (f1.z = true) ∧
    f1.z = true ∧
    CallForm f1 (.cnc 0xFFFF) 0xD4 0xFFFF (f1.cy = false) ∧
    ¬ f1.cy = false ∧
    CallForm f1 (.cc 0xFFFF) 0xDC 0xFFFF (f1.cy = true) ∧
    f1.cy = true ∧
    CallForm f1 (.cpo 0xFFFF) 0xE4 0xFFFF (f1.p = false) ∧
    ¬ f1.p = false ∧
    CallForm f1 (.cpe 0xFFFF) 0xEC 0xFFFF (f1.p = true) ∧
    f1.p = true ∧
    CallForm f1 (.cp 0xFFFF) 0xF4 0xFFFF (f1.s = false) ∧
    ¬ f1.s = false ∧
    CallForm f1 (.cm 0xFFFF) 0xFC 0xFFFF (f1.s = true) ∧
    f1.s = true :=
  ⟨.call _, .cnz _, by decide, .cz _, by decide, .cnc _, by decide, .cc _, by decide, .cpo _,
    by decide, .cpe _, by decide, .cp _, by decide, .cm _, by decide⟩

/-- Every form, with the flags all clear: each condition holds or fails. -/
theorem witness_ReturnsPopThePc_clear :
    ReturnForm f0 .ret 0xC9 True ∧
    ReturnForm f0 .rnz 0xC0 (f0.z = false) ∧
    f0.z = false ∧
    ReturnForm f0 .rz 0xC8 (f0.z = true) ∧
    ¬ f0.z = true ∧
    ReturnForm f0 .rnc 0xD0 (f0.cy = false) ∧
    f0.cy = false ∧
    ReturnForm f0 .rc 0xD8 (f0.cy = true) ∧
    ¬ f0.cy = true ∧
    ReturnForm f0 .rpo 0xE0 (f0.p = false) ∧
    f0.p = false ∧
    ReturnForm f0 .rpe 0xE8 (f0.p = true) ∧
    ¬ f0.p = true ∧
    ReturnForm f0 .rp 0xF0 (f0.s = false) ∧
    f0.s = false ∧
    ReturnForm f0 .rm 0xF8 (f0.s = true) ∧
    ¬ f0.s = true :=
  ⟨.ret, .rnz, by decide, .rz, by decide, .rnc, by decide, .rc, by decide, .rpo, by decide,
    .rpe, by decide, .rp, by decide, .rm, by decide⟩

/-- Every form, with the flags all set: each condition holds or fails. -/
theorem witness_ReturnsPopThePc_set :
    ReturnForm f1 .ret 0xC9 True ∧
    ReturnForm f1 .rnz 0xC0 (f1.z = false) ∧
    ¬ f1.z = false ∧
    ReturnForm f1 .rz 0xC8 (f1.z = true) ∧
    f1.z = true ∧
    ReturnForm f1 .rnc 0xD0 (f1.cy = false) ∧
    ¬ f1.cy = false ∧
    ReturnForm f1 .rc 0xD8 (f1.cy = true) ∧
    f1.cy = true ∧
    ReturnForm f1 .rpo 0xE0 (f1.p = false) ∧
    ¬ f1.p = false ∧
    ReturnForm f1 .rpe 0xE8 (f1.p = true) ∧
    f1.p = true ∧
    ReturnForm f1 .rp 0xF0 (f1.s = false) ∧
    ¬ f1.s = false ∧
    ReturnForm f1 .rm 0xF8 (f1.s = true) ∧
    f1.s = true :=
  ⟨.ret, .rnz, by decide, .rz, by decide, .rnc, by decide, .rc, by decide, .rpo, by decide,
    .rpe, by decide, .rp, by decide, .rm, by decide⟩

theorem witness_PushAndPop :
    (Instr.push .BC).wf = true ∧ (Instr.push .DE).wf = true ∧ (Instr.push .HL).wf = true ∧
    (Instr.pop .BC).wf = true ∧ (Instr.pop .DE).wf = true ∧ (Instr.pop .HL).wf = true := by
  decide

theorem witness_InTakesTheEnvironmentsByteOrNothing :
    State.reset.params.ioBridge = .absent ∧ bridged.params.ioBridge = .present := by
  decide

theorem witness_NopAndItsSynonymsOnlyAdvance : (Instr.nopSyn 1).wf = true ∧
(Instr.nopSyn 7).wf = true := by
  decide

theorem witness_DeliverInterruptPushesPcAndVectors :
    (asked true true 7).params.intAckClearsInte = true ∧
    (asked false true 0).params.intAckClearsInte = false := by
  decide

theorem witness_EnvironmentMovesOnlyRequestOrClear :
    (asked false true 7).env.turns = [.request 7] ∧ (asked false true 7).inte = true ∧
    (asked false false 0).env.turns = [.request 0] ∧ (asked false false 0).inte = false ∧
    (edgeTurns [.clearUnimpl]).env.turns = [.clearUnimpl] ∧
    (edgeTurns [.clearStub, .engine]).env.turns = [.clearStub, .engine] := by
  decide

theorem witness_InterruptThenRetResumes : edge.inte = true ∧ (asked true true 7).inte = true := by
  decide

/-- A state of other flags that agrees with `edge` on the one flag ADC reads. -/
theorem witness_FlagTableIsKeptByEveryInstruction :
    ∀ n, reads (.adcR .B) n = true → flag ⟨false, false, false, false, true⟩ n = flag edge.flags n := by
  intro n
  cases n <;> decide

/-- EI, DI, HLT, an opcode without a handler and NOP on the engine's turn. -/
theorem witness_EngineTurn :
    EngineTurn edge ∧ EngineTurn (edgeTurns [.engine, .request 1]) ∧ (∃ t, step edge = .next t) ∧
    (place edge 0 [0xFB]).readByte 0 = 0xFB ∧ (∃ t, step (place edge 0 [0xFB]) = .next t ∧
    t.inte = true) ∧
    (∃ t, step (place edge 0 [0xF3]) = .next t ∧ t.inte = false) ∧
    (∃ t, step (place edge 0 [0x76]) = .next t ∧ t.halted = true) ∧
    ∃ t, step (place edge 0 [0xFD]) = .next t ∧ t.unimpl = true :=
  ⟨.inl rfl, .inr ⟨_, rfl⟩, ⟨_, rfl⟩, by decide, ⟨_, rfl, rfl⟩, ⟨_, rfl, rfl⟩, ⟨_, rfl, rfl⟩, ⟨_, rfl, rfl⟩⟩

/-- The environment's turns of the statements about INTE and HALTED. -/
theorem witness_EnvironmentTurn :
    (∃ t, step (asked true true 7) = .next t ∧ t.inte = false) ∧
    (∃ t, step (edgeTurns [.clearUnimpl]) = .next t) ∧
    ∃ t, step (edgeTurns [.clearStub]) = .next t :=
  ⟨⟨_, rfl, rfl⟩, ⟨_, rfl⟩, ⟨_, rfl⟩⟩

/-- P7's store `STA 0x0007` is the next instruction; PUSH H at the top of the stack space, SHLD into its own
operand bytes and MOV M,A over its own opcode are stores into the instruction stream too. -/
theorem witness_StoresAreSeenByTheNextFetch :
    let s := { place State.reset 0x0004 [0x32, 0x07, 0x00] with a := 0x3C }
    let p := { place State.reset 0x0004 [0xE5] with h := 0x12, l := 0x3C, sp := 0x0007 }
    let w := { place State.reset 0x0004 [0x22, 0x05, 0x00] with h := 0x12, l := 0x3C }
    let m := { place State.reset 0x0004 [0x77] with a := 0x3C, l := 0x04 }
    s.env.turns = [] ∧ (storedAt (.sta 0x0007) s).contains (pcAfter (.sta 0x0007) s) = true ∧
    decode [byteAfter (.sta 0x0007) s 0x0007, byteAfter (.sta 0x0007) s 0x0008,
      byteAfter (.sta 0x0007) s 0x0009] = .ok (.inrR .A, [0x00, 0x00]) ∧
    decode [byteAfter (.push .HL) p 0x0005, byteAfter (.push .HL) p 0x0006,
      byteAfter (.push .HL) p 0x0007] = .ok (.inrR .A, [0x12, 0x00]) ∧
    decode [w.readByte w.pc, w.readByte (w.pc + 1), w.readByte (w.pc + 2)] = .ok (.shld 0x0005,
      []) ∧
    (storedAt (.shld 0x0005) w).contains (w.pc + 1) = true ∧
    decode [m.readByte m.pc, m.readByte (m.pc + 1), m.readByte (m.pc + 2)] = .ok (.movMR .A,
      [0x00, 0x00]) ∧
    (storedAt (.movMR .A) m).contains m.pc = true :=
  ⟨rfl, rfl, rfl, rfl, rfl, rfl, rfl, rfl⟩

/-- MOV M,A over its own opcode completes, and INR A, the byte stored, is fetched there next (R43). -/
theorem test_store_over_itself :
    let t := after { place State.reset 0x0004 [0x77] with a := 0x3C, l := 0x04 }
    t.pc = 0x0005 ∧ t.readByte 0x0004 = 0x3C ∧ t.a = 0x3C := by
  decide

theorem witness_EveryStepKeepsMemoryCanonical :
    State.Inv { State.reset with mem := [(0x2000, 0x01), (0xFFFF, 0x02)] } ∧
    ∃ t, step { State.reset with mem := [(0x2000, 0x01), (0xFFFF, 0x02)] } = .next t :=
  ⟨by unfold State.Inv; decide, ⟨_, rfl⟩⟩

/-- A memory written in two orders is one list. -/
theorem witness_CanonicalMemoriesAreEqualWhenTheyReadAlike :
    let m := Memory.write (Memory.write [] 0xFFFF 1) 0 2
    let n := Memory.write (Memory.write [] 0 2) 0xFFFF 1
    Memory.wf m ∧ Memory.wf n ∧ m = n := by
  decide

/-- An image that just fits, one that does not, an empty one at the top; two images, the second over part
of the first; a list in which only the second does not fit. -/
theorem witness_LaunchPlacesTheWholeImageOrRefuses :
    65534 + [0x76#8, 0x00#8].length ≤ 65536 ∧ 65536 < 65535 + [0x76#8, 0x00#8].length ∧
    (launch [(65534, [0x76, 0x01])] 0xFFFE).isSome = true ∧
    launch [(65535, [0x76, 0x01])] 0 = none ∧
    (launch [(65536, [])] 0).isSome = true ∧ launch [(0, [0x76]), (65535, [0x76, 0x01])] 0 = none ∧
    (launch [(5, [0x01, 0x02]), (6,
      [0xC9])] 5).map (fun s => (s.readByte 5, s.readByte 6, s.readByte 7)) =
      some (0x01, 0xC9, 0x00) := by
  decide

/-- Each clause of R256: a run not yet ended, one already ended, one that HLT ends after an opcode without
a handler (UNIMPL = 1 at the end), and its last state before the HLT. -/
theorem witness_AHaltedRunHasEnded :
    let s := place State.reset 0 [0xED, 0x76]
    s.halted = false ∧ (∃ t, step s = .next t) ∧ ({ s with halted := true } : State).halted = true ∧
    (∃ t, runUntilHalted 2 s = .next t ∧ t.halted = true ∧ t.unimpl = true ∧ t.pc = 0x0002) ∧
    (∃ u, runUntilHalted 1 s = .next u ∧ u.halted = false ∧ u.readByte u.pc = 0x76) ∧
    ∃ t, EndsWell 1 (place State.reset 0 [0x76]) t :=
  ⟨rfl, ⟨_, rfl⟩, rfl, ⟨_, rfl, rfl, rfl, rfl⟩, ⟨_, rfl, rfl, rfl⟩, ⟨_, rfl, rfl, rfl⟩⟩

end Sys2Proof.Tests
end

/-! PROOFS. One move of the run: the engine's `Step` or an action of the environment (R6, R50), what it
does to the parameters and to the record of the environment (R5, R221), and the environment's moves
(R20, R21, R242, R244). -/

namespace Sys2Proof.Machine

open Sys2Proof.Claims

/-! ### The step, by whose move comes next (R6) -/

@[simp] theorem State.environmentMove_request (s : State) (v : BitVec 3) :
    s.environmentMove (.request v) = s.request v := rfl

@[simp] theorem State.environmentMove_clearUnimpl (s : State) :
    s.environmentMove .clearUnimpl = s.setUnimpl false := rfl

@[simp] theorem State.environmentMove_clearStub (s : State) :
    s.environmentMove .clearStub = s.setStub false := rfl

theorem State.withTurns_self (s : State) : s.withTurns s.env.turns = s := rfl

@[simp] theorem State.fetch_withTurns (s : State) (ts : List Turn) : (s.withTurns ts).fetch = s.fetch := rfl

/-- On the engine's turn the step executes the fetched instruction; the move leaves the list of turns. -/
theorem step_of_engineTurn {s : State} (h : EngineTurn s) :
    step s = exec s.fetch (s.withTurns s.env.turns.tail) := by
  unfold step oneMove
  rcases h with h | ⟨ts, h⟩
  · simp only [h, List.tail_nil, engineStep]
    rw [← h, State.withTurns_self]
  · simp only [h, List.tail_cons, engineStep, State.fetch_withTurns]

/-- On another turn the step is the environment's move. -/
theorem step_of_environmentTurn {s : State} {turn : Turn} {ts : List Turn} (h : s.env.turns = turn :: ts)
    (hturn : turn ≠ .engine) : step s = .next ((s.withTurns ts).environmentMove turn) := by
  unfold step oneMove
  rw [h]
  cases turn with
  | engine => exact absurd rfl hturn
  | request v => rfl
  | clearUnimpl => rfl
  | clearStub => rfl

/-- Everything a step can do: the fetched instruction, or one move of the environment. -/
theorem step_cases {s t : State} (h : step s = .next t) :
    (EngineTurn s ∧ exec s.fetch (s.withTurns s.env.turns.tail) = .next t) ∨
      ∃ turn ts, turn ≠ .engine ∧ s.env.turns = turn :: ts ∧ t = (s.withTurns ts).environmentMove turn := by
  by_cases hs : EngineTurn s
  · exact .inl ⟨hs, step_of_engineTurn hs ▸ h⟩
  · match hturns : s.env.turns with
    | [] => exact absurd (.inl hturns) hs
    | turn :: ts =>
      have hturn : turn ≠ .engine := by
        rintro rfl
        exact hs (.inr ⟨ts, hturns⟩)
      rw [step_of_environmentTurn hturns hturn] at h
      exact .inr ⟨turn, ts, hturn, rfl, (Host.Outcome.next.inj h).symm⟩

/-- Settles O45: the step on each of the environment's turns is that move, and a request is accepted or
ignored by `INTE`. -/
theorem environmentMovesOnlyRequestOrClear : Obligations.EnvironmentMovesOnlyRequestOrClear := by
  unfold Obligations.EnvironmentMovesOnlyRequestOrClear
  intro s ts
  refine ⟨fun v h => ?_, fun h => ?_, fun h => ?_⟩
  · have hstep : step s = .next ((s.withTurns ts).request v) := step_of_environmentTurn h nofun
    refine ⟨fun hinte => ?_, fun hinte => ?_⟩
    · rw [hstep, State.request_enabled (s.withTurns ts) v hinte]
    · rw [hstep, State.request_disabled (s.withTurns ts) v hinte]
  · exact step_of_environmentTurn h nofun
  · exact step_of_environmentTurn h nofun

/-! ### The parameters and the record of the environment (R5, R221; logs 2 to 5) -/

/-- From `s` to `t` the parameters are kept, the OUT events only grow at the end, and the count of IN
answers does not fall. The list of turns is not spoken of. -/
structure RecordGrows (s t : State) : Prop where
  params : t.params = s.params
  outs : s.env.outs <+: t.env.outs
  inCount : s.env.inCount ≤ t.env.inCount

theorem RecordGrows.of_eq {s t : State} (hparams : t.params = s.params) (henv : t.env = s.env) :
    RecordGrows s t :=
  ⟨hparams, henv ▸ List.prefix_rfl, henv ▸ Nat.le_refl _⟩

theorem RecordGrows.portIn (s : State) (p : Byte) : RecordGrows s (s.portIn p) := by
  cases h : s.params.ioBridge with
  | absent => exact .of_eq (by simp) (by simp [h])
  | present =>
    rw [State.portIn_present s p h]
    exact ⟨rfl, List.prefix_rfl, Nat.le_succ _⟩

theorem RecordGrows.portOut (s : State) (p : Byte) : RecordGrows s (s.portOut p) := by
  cases h : s.params.ioBridge with
  | absent => exact .of_eq (by simp) (by simp [h])
  | present =>
    rw [State.portOut_present s p h]
    exact ⟨rfl, List.prefix_append _ _, Nat.le_refl _⟩

/-- Only IN and OUT write the record; every other instruction keeps it and the parameters. -/
theorem exec_recordGrows (i : Instr) (s : State) : ∃ t, exec i s = .next t ∧ RecordGrows s t := by
  cases i with
  | inPort p =>
    obtain ⟨hparams, houts, hcount⟩ := RecordGrows.portIn s p
    exact ⟨(s.portIn p).advance 2, rfl, hparams, houts, hcount⟩
  | outPort p =>
    obtain ⟨hparams, houts, hcount⟩ := RecordGrows.portOut s p
    exact ⟨(s.portOut p).advance 2, rfl, hparams, houts, hcount⟩
  | _ => exact ⟨_, rfl, .of_eq (by simp) (by simp)⟩

theorem RecordGrows.environmentMove (s : State) (turn : Turn) : RecordGrows s (s.environmentMove turn) := by
  cases turn with
  | engine => exact .of_eq rfl rfl
  | request v => exact .of_eq (by simp) (by simp)
  | clearUnimpl => exact .of_eq (by simp) (by simp)
  | clearStub => exact .of_eq (by simp) (by simp)

/-- Taking a move off the list of turns is no part of the record's growth. -/
theorem RecordGrows.of_withTurns {s t : State} {ts : List Turn} (h : RecordGrows (s.withTurns ts) t) :
    RecordGrows s t :=
  ⟨h.params, h.outs, h.inCount⟩

theorem step_recordGrows {s t : State} (h : step s = .next t) : RecordGrows s t := by
  rcases step_cases h with ⟨-, hexec⟩ | ⟨turn, ts, -, -, rfl⟩
  · obtain ⟨u, hu, hgrows⟩ := exec_recordGrows s.fetch (s.withTurns s.env.turns.tail)
    obtain rfl : u = t := Host.Outcome.next.inj (hu.symm.trans hexec)
    exact hgrows.of_withTurns
  · exact (RecordGrows.environmentMove (s.withTurns ts) turn).of_withTurns

/-- Settles O53: by cases on whose move the step is, and for the engine's on the instruction. -/
theorem parametersAndTraceArePreserved : Obligations.ParametersAndTraceArePreserved := by
  unfold Obligations.ParametersAndTraceArePreserved
  intro s t h
  obtain ⟨hparams, houts, hcount⟩ := step_recordGrows h
  exact ⟨hparams, houts, hcount⟩

end Sys2Proof.Machine

/-! PROOFS. The canonical form of memory (log 1): it has one list for each contents of the 65536 bytes, and every
step keeps it (R22, R25, R30). -/

namespace Sys2Proof.Machine

/-! ### What the canonical form says of reading (R22, log 1) -/

/-- In a canonical memory the entries are exactly the addresses that read as something else than 0, each
with the Byte it reads as. -/
theorem Memory.mem_iff_read {m : Memory} (h : Memory.wf m) (k : Nat) (v : Byte) :
    (k, v) ∈ m ↔ Memory.read m k = v ∧ v ≠ Memory.unlisted := by
  induction m with
  | nil => simp [Memory.read, eq_comm]
  | cons x m ih =>
    obtain ⟨hrising, hcells⟩ := h
    obtain ⟨hlow, hrest⟩ := List.pairwise_cons.1 hrising
    have hx : x.2 ≠ Memory.unlisted := (hcells x List.mem_cons_self).2
    specialize ih ⟨hrest, fun y hy => hcells y (List.mem_cons_of_mem x hy)⟩
    rw [List.mem_cons, Memory.read]
    split
    next hk =>
      have hnot : (k, v) ∉ m := fun hmem => (hlow (k, v) hmem).ne hk
      constructor
      · rintro (rfl | hmem)
        · exact ⟨rfl, hx⟩
        · exact absurd hmem hnot
      · rintro ⟨rfl, -⟩
        exact .inl (Prod.ext hk.symm rfl)
    next hk =>
      rw [← ih, or_iff_right]
      rintro rfl
      exact hk rfl

/-- Outside the 64 KiB a canonical memory holds nothing. -/
theorem Memory.read_of_le {m : Memory} (h : Memory.wf m) {k : Nat} (hk : 65536 ≤ k) :
    Memory.read m k = Memory.unlisted := by
  by_contra hread
  have hmem : (k, Memory.read m k) ∈ m := (Memory.mem_iff_read h k _).2 ⟨rfl, hread⟩
  exact absurd (h.2 _ hmem).1 (Nat.not_lt.2 hk)

/-- Settles O56: the entries of a canonical list are determined by what it reads as, and so is their order. -/
theorem canonicalMemoriesAreEqualWhenTheyReadAlike :
    Obligations.CanonicalMemoriesAreEqualWhenTheyReadAlike := by
  unfold Obligations.CanonicalMemoriesAreEqualWhenTheyReadAlike
  intro m n hm hn halike
  have hread (k : Nat) : Memory.read m k = Memory.read n k := by
    by_cases hk : k < 65536
    · exact halike (BitVec.ofNatLT k hk)
    · rw [Memory.read_of_le hm (Nat.not_lt.1 hk), Memory.read_of_le hn (Nat.not_lt.1 hk)]
  have hmem (x : Host.Cell) : x ∈ m ↔ x ∈ n := by
    rw [Memory.mem_iff_read hm, hread, ← Memory.mem_iff_read hn]
  have : Std.Irrefl fun x y : Host.Cell => x.1 < y.1 := ⟨fun x => Nat.lt_irrefl x.1⟩
  have : Std.Antisymm fun x y : Host.Cell => x.1 < y.1 := ⟨fun _ _ h h' => absurd h' (Nat.lt_asymm h)⟩
  exact List.Pairwise.eq_of_mem_iff hm.1 hn.1 hmem

/-! ### Every operation and every instruction keeps the canonical form -/

theorem State.Inv.of_mem_eq {s t : State} (h : s.Inv) (hmem : t.mem = s.mem) : t.Inv :=
  show Memory.wf t.mem from hmem ▸ h

theorem State.Inv.withTurns {s : State} (h : s.Inv) (ts : List Turn) : (s.withTurns ts).Inv := h

theorem State.Inv.writeM {s : State} (h : s.Inv) (v : Byte) : (s.writeM v).Inv :=
  State.wf_writeByte s (s.pair .HL) v h

theorem State.Inv.callIf {s : State} (h : s.Inv) (cond : Cond) (a16 : Word) : (s.callIf cond a16).Inv := by
  rcases s.callIf_cases cond a16 with ⟨-, htaken⟩ | ⟨-, hnot⟩
  · exact htaken ▸ s.wf_push (s.pc + 3) h
  · exact hnot ▸ h

/-- The instructions that store do so through the one-byte write of the interface; no other touches the list. -/
theorem exec_keeps_inv (i : Instr) {s : State} (h : s.Inv) : ∃ t, exec i s = .next t ∧ t.Inv := by
  cases i with
  | movMR _ | mviM _ | inrM | dcrM => exact ⟨_, rfl, h.writeM _⟩
  | sta _ | stax _ => exact ⟨_, rfl, s.wf_writeByte _ _ h⟩
  | shld _ | xthl => exact ⟨_, rfl, s.wf_writeWord _ _ h⟩
  | push _ | pushPsw | rst _ | call _ => exact ⟨_, rfl, s.wf_push _ h⟩
  | cnz a16 | cz a16 | cnc a16 | cc a16 | cpo a16 | cpe a16 | cp a16 | cm a16 => exact ⟨_, rfl, h.callIf _ a16⟩
  | _ => exact ⟨_, rfl, h.of_mem_eq (by simp)⟩

theorem State.Inv.environmentMove {s : State} (h : s.Inv) (turn : Turn) : (s.environmentMove turn).Inv := by
  cases turn with
  | engine => exact h
  | request v => exact s.wf_request v h
  | clearUnimpl => exact h
  | clearStub => exact h

/-- What every next state of an instruction satisfies, from the one next state it answers. -/
theorem of_exec_eq {i : Instr} {s t : State} {P : State → Prop} (h : ∃ u, exec i s = .next u ∧ P u)
    (ht : exec i s = .next t) : P t := by
  obtain ⟨u, hu, hP⟩ := h
  exact Host.Outcome.next.inj (hu.symm.trans ht) ▸ hP

/-- Settles O55: by cases on whose move the step is. -/
theorem everyStepKeepsMemoryCanonical : Obligations.EveryStepKeepsMemoryCanonical := by
  unfold Obligations.EveryStepKeepsMemoryCanonical
  intro s t hs hstep
  rcases step_cases hstep with ⟨-, hexec⟩ | ⟨turn, ts, -, -, rfl⟩
  · exact of_exec_eq (exec_keeps_inv s.fetch (hs.withTurns _)) hexec
  · exact (hs.withTurns ts).environmentMove turn

/-- Settles O58: the list of bytes is empty at reset. -/
theorem resetMemoryIsCanonical : Obligations.ResetMemoryIsCanonical :=
  show Memory.wf [] from ⟨List.Pairwise.nil, nofun⟩

end Sys2Proof.Machine

/-! PROOFS. Where an instruction leaves `pc` and `sp` (R12, R13), register pairs (R11), the PSW byte (R15, R16)
and reset (R25). -/

namespace Sys2Proof.Machine

open Sys2Proof.Claims

/-! ### The rules' words and conditions are the model's (R7, R160) -/

theorem word_eq_joinBytes (hi lo : Byte) : word hi lo = joinBytes hi lo := by
  apply BitVec.eq_of_toNat_eq
  have hhi := hi.isLt
  have hlo := lo.isLt
  rw [toNat_joinBytes, word, BitVec.toNat_ofNat, Nat.mod_eq_of_lt (by omega)]

theorem high_eq_hiByte (w : Word) : high w = hiByte w := by
  apply BitVec.eq_of_toNat_eq
  have hw := w.isLt
  rw [toNat_hiByte, high, BitVec.toNat_ofNat, Nat.mod_eq_of_lt (by omega)]

theorem low_eq_loByte (w : Word) : low w = loByte w := by
  apply BitVec.eq_of_toNat_eq
  rw [toNat_loByte, low, BitVec.toNat_ofNat, Nat.mod_eq_of_lt (Nat.mod_lt _ (by decide))]

/-- A transfer is taken when it has no condition or the condition is satisfied. -/
theorem taken_eq_satisfies (i : Instr) (f : Flags) : taken i f = (condOf i).elim true f.satisfies := by
  unfold taken
  cases condOf i with
  | none => rfl
  | some cond => cases cond <;> simp

/-! ### Where an instruction leaves `pc` and `sp` (R12, R13) -/

theorem State.top_eq_word (s : State) : s.top = word (s.readByte (s.sp + 1)) (s.readByte s.sp) :=
  (word_eq_joinBytes _ _).symm

theorem State.pair_HL_eq_word (s : State) : s.pair .HL = word s.h s.l := (word_eq_joinBytes _ _).symm

/-- Settles O6: by cases on the instruction; a conditional transfer has the target's `pc` when it is taken. -/
theorem everyInstructionEndsAtTheRulesPc : Obligations.EveryInstructionEndsAtTheRulesPc := by
  unfold Obligations.EveryInstructionEndsAtTheRulesPc
  intro i s
  cases i with
  | jmp w | jmpAlt w | jnz w | jz w | jnc w | jc w | jpo w | jpe w | jp w | jm w
  | call w | cnz w | cz w | cnc w | cc w | cpo w | cpe w | cp w | cm w =>
    exact ⟨_, rfl, by simp [pcAfter, taken_eq_satisfies, condOf, Instr.length]⟩
  | ret | rnz | rz | rnc | rc | rpo | rpe | rp | rm =>
    exact ⟨_, rfl, by simp [pcAfter, taken_eq_satisfies, condOf, Instr.length, State.top_eq_word]⟩
  | pchl => exact ⟨_, rfl, s.pair_HL_eq_word⟩
  | _ => exact ⟨_, rfl, by simp [pcAfter, Instr.length, vectorAddress]⟩

theorem RegPair.ne_SP_of_stackable {rp : RegPair} (h : rp.stackable = true) : rp ≠ .SP := by
  rintro rfl
  exact Bool.false_ne_true h

/-- Settles O7: by cases on the instruction; POP never names the fourth pair. -/
theorem everyInstructionMovesSpAsTheRulesSay : Obligations.EveryInstructionMovesSpAsTheRulesSay := by
  unfold Obligations.EveryInstructionMovesSpAsTheRulesSay
  intro i s hwf
  cases i with
  | pop rp => exact ⟨_, rfl, by simp [spAfter, RegPair.ne_SP_of_stackable hwf]⟩
  | sphl => exact ⟨_, rfl, s.pair_HL_eq_word⟩
  | lxi rp w | inx rp | dcx rp => cases rp <;> exact ⟨_, rfl, rfl⟩
  | call w | cnz w | cz w | cnc w | cc w | cpo w | cpe w | cp w | cm w
  | ret | rnz | rz | rnc | rc | rpo | rpe | rp | rm =>
    exact ⟨_, rfl, by simp [spAfter, taken_eq_satisfies, condOf]⟩
  | _ => exact ⟨_, rfl, by simp [spAfter]⟩

/-! ### Register pairs (R11, R56) -/

/-- Writing a pair leaves every register outside it as it was. -/
theorem State.reg_setPair_of_not_mem (s : State) (w : Word) {rp : RegPair} {r : Reg} (h : r ∉ pairRegs rp) :
    (s.setPair rp w).reg r = s.reg r := by
  cases rp <;> cases r <;> simp [pairRegs, State.setPair, State.reg] at h ⊢

/-- Settles O16: the pairs' reads are joins of the two registers and their writes are the two halves. -/
theorem registerPairsAreTheirTwoRegisters : Obligations.RegisterPairsAreTheirTwoRegisters := by
  unfold Obligations.RegisterPairsAreTheirTwoRegisters
  intro s w
  rw [high_eq_hiByte, low_eq_loByte]
  exact ⟨toNat_joinBytes s.b s.c, toNat_joinBytes s.d s.e, toNat_joinBytes s.h s.l, rfl, rfl, rfl, rfl, rfl, rfl,
    rfl, rfl, fun _ _ => s.reg_setPair_of_not_mem w⟩

/-! ### The PSW byte and reset (R15, R16, R25) -/

theorem Flags.toPsw_bits (f : Flags) :
    f.toPsw.getLsbD 7 = f.s ∧ f.toPsw.getLsbD 6 = f.z ∧ f.toPsw.getLsbD 5 = false ∧
    f.toPsw.getLsbD 4 = f.ac ∧ f.toPsw.getLsbD 3 = false ∧ f.toPsw.getLsbD 2 = f.p ∧
    f.toPsw.getLsbD 1 = true ∧ f.toPsw.getLsbD 0 = f.cy := by
  obtain ⟨s, z, ac, p, cy⟩ := f
  revert s z ac p cy
  decide

/-- "`ToPSW(FromPSW(b)) = (b & 0xD5) | 0x02`" (R16). -/
theorem Flags.toPsw_ofPsw (b : Byte) : (Flags.ofPsw b).toPsw = (b &&& 0xD5) ||| 0x02 := by
  revert b
  decide

/-- Settles O47: the layout is read off the 32 flag values, the round trips are the two lemmas. -/
theorem pswConversions : Obligations.PswConversions := by
  unfold Obligations.PswConversions
  refine ⟨fun f => ?_, fun b => ⟨rfl, rfl, rfl, rfl, rfl, Flags.toPsw_ofPsw b⟩, rfl, rfl⟩
  obtain ⟨h7, h6, h5, h4, h3, h2, h1, h0⟩ := f.toPsw_bits
  exact ⟨h7, h6, h5, h4, h3, h2, h1, h0, f.ofPsw_toPsw⟩

/-- Settles O57: register by register and flag by flag. -/
theorem resetClearsEverything : Obligations.ResetClearsEverything := by
  unfold Obligations.ResetClearsEverything
  refine ⟨fun r => ?_, rfl, rfl, fun n => ?_, rfl, rfl, rfl, rfl, fun _ => rfl, rfl⟩
  · cases r <;> rfl
  · cases n <;> rfl

end Sys2Proof.Machine

/-! PROOFS. The status bits: which opcodes write them, and what INTE, HALTED, UNIMPL and STUB are after an
instruction and after a step (R18 to R20, R222 to R224, R228, R243). -/

namespace Sys2Proof.Machine

open Sys2Proof.Claims

/-! ### Opcodes of the instructions that write a status bit (R61, R222 to R224, R228)

Each lemma runs the decoder on the 256 opcodes; the operand bytes stay arbitrary. -/

theorem decodeOp_eq_ei_iff (op b2 b3 : Byte) : decodeOp op b2 b3 = .ei ↔ op = 0xFB := by
  revert op
  exact of_decide_eq_true rfl

theorem decodeOp_eq_di_iff (op b2 b3 : Byte) : decodeOp op b2 b3 = .di ↔ op = 0xF3 := by
  revert op
  exact of_decide_eq_true rfl

theorem decodeOp_eq_hlt_iff (op b2 b3 : Byte) : decodeOp op b2 b3 = .hlt ↔ op = 0x76 := by
  revert op
  exact of_decide_eq_true rfl

theorem decodeOp_eq_unimpl_iff (op b2 b3 : Byte) (x : NoHandler) :
    decodeOp op b2 b3 = .unimpl x ↔ op = x.opcode := by
  revert op
  cases x <;> exact of_decide_eq_true rfl

/-- The fetched instruction is decoded from the opcode at `pc`. -/
theorem State.exists_fetch_eq_decodeOp (s : State) : ∃ b2 b3, s.fetch = decodeOp (s.readByte s.pc) b2 b3 := by
  unfold State.fetch
  dsimp only
  split
  · exact ⟨_, _, rfl⟩
  · exact ⟨_, _, rfl⟩
  · exact ⟨_, _, rfl⟩

theorem State.fetch_eq_ei_iff (s : State) : s.fetch = .ei ↔ s.readByte s.pc = 0xFB := by
  obtain ⟨b2, b3, h⟩ := s.exists_fetch_eq_decodeOp
  rw [h, decodeOp_eq_ei_iff]

theorem State.fetch_eq_di_iff (s : State) : s.fetch = .di ↔ s.readByte s.pc = 0xF3 := by
  obtain ⟨b2, b3, h⟩ := s.exists_fetch_eq_decodeOp
  rw [h, decodeOp_eq_di_iff]

theorem State.fetch_eq_hlt_iff (s : State) : s.fetch = .hlt ↔ s.readByte s.pc = 0x76 := by
  obtain ⟨b2, b3, h⟩ := s.exists_fetch_eq_decodeOp
  rw [h, decodeOp_eq_hlt_iff]

theorem NoHandler.exists_eq_opcode_iff (op : Byte) :
    (∃ x : NoHandler, op = x.opcode) ↔ op ∈ [0xD9#8, 0xDD#8, 0xED#8, 0xFD#8] := by
  constructor
  · rintro ⟨x, rfl⟩
    cases x <;> decide
  · simp only [List.mem_cons, List.not_mem_nil, or_false]
    rintro (rfl | rfl | rfl | rfl)
    · exact ⟨.xD9, rfl⟩
    · exact ⟨.xDD, rfl⟩
    · exact ⟨.xED, rfl⟩
    · exact ⟨.xFD, rfl⟩

theorem State.fetch_eq_unimpl_iff (s : State) :
    (∃ x, s.fetch = .unimpl x) ↔ s.readByte s.pc ∈ [0xD9#8, 0xDD#8, 0xED#8, 0xFD#8] := by
  obtain ⟨b2, b3, h⟩ := s.exists_fetch_eq_decodeOp
  simp only [h, decodeOp_eq_unimpl_iff, NoHandler.exists_eq_opcode_iff]

/-! ### The status bits after an instruction -/

/-- What the instruction `i` makes of the status bits of `s`: EI and DI write INTE, HLT sets HALTED, an opcode
without a handler sets UNIMPL, and nothing touches STUB. -/
structure StatusAfter (i : Instr) (s t : State) : Prop where
  inte : t.inte = if i = .ei then true else if i = .di then false else s.inte
  halted : t.halted = true ↔ s.halted = true ∨ i = .hlt
  unimpl : t.unimpl = true ↔ s.unimpl = true ∨ ∃ x, i = .unimpl x
  stub : t.stub = s.stub

theorem exec_statusAfter (i : Instr) (s : State) : ∃ t, exec i s = .next t ∧ StatusAfter i s t := by
  cases i <;> exact ⟨_, rfl, by simp, by simp, by simp, by simp⟩

theorem step_statusAfter {s t : State} (hs : EngineTurn s) (h : step s = .next t) : StatusAfter s.fetch s t := by
  obtain ⟨hinte, hhalted, hunimpl, hstub⟩ := of_exec_eq (exec_statusAfter _ _) (step_of_engineTurn hs ▸ h)
  exact ⟨hinte, hhalted, hunimpl, hstub⟩

/-! ### The status bits after a step -/

/-- The next state on the environment's turn. -/
theorem eq_environmentMove_of_step {s t : State} {turn : Turn} {ts : List Turn} (h : step s = .next t)
    (hturns : s.env.turns = turn :: ts) (hturn : turn ≠ .engine) : t = (s.withTurns ts).environmentMove turn :=
  Host.Outcome.next.inj (h.symm.trans (step_of_environmentTurn hturns hturn))

theorem not_engineTurn {s : State} {turn : Turn} {ts : List Turn} (hturns : s.env.turns = turn :: ts)
    (hturn : turn ≠ .engine) : ¬ EngineTurn s := by
  rintro (h | ⟨ts', h⟩)
  · exact List.cons_ne_nil turn ts (hturns.symm.trans h)
  · exact hturn (List.cons.inj (hturns.symm.trans h)).1

theorem State.environmentMove_halted (s : State) (turn : Turn) : (s.environmentMove turn).halted = s.halted := by
  cases turn with
  | engine => rfl
  | request v => exact s.request_halted v
  | clearUnimpl => rfl
  | clearStub => rfl

/-- Settles O50: EI and DI are the opcodes 0xFB and 0xF3, and a request goes through delivery. -/
theorem inteChangesOnlyByEiDiAndDelivery : Obligations.InteChangesOnlyByEiDiAndDelivery := by
  unfold Obligations.InteChangesOnlyByEiDiAndDelivery
  intro s t h
  refine ⟨fun hs => ?_, fun v ts hturns => ?_, fun ts hturns => ?_⟩
  · simpa only [State.fetch_eq_ei_iff, State.fetch_eq_di_iff] using (step_statusAfter hs h).inte
  · rw [eq_environmentMove_of_step h hturns nofun, State.environmentMove_request, State.request_inte]
    rfl
  · rcases hturns with hturns | hturns
    · exact eq_environmentMove_of_step h hturns nofun ▸ rfl
    · exact eq_environmentMove_of_step h hturns nofun ▸ rfl

/-- Settles O51: the engine sets HALTED by HLT alone and the environment does not touch it. -/
theorem haltedIsSetOnlyByHltAndNeverCleared : Obligations.HaltedIsSetOnlyByHltAndNeverCleared := by
  unfold Obligations.HaltedIsSetOnlyByHltAndNeverCleared
  intro s t h
  rcases step_cases h with ⟨hs, -⟩ | ⟨turn, ts, hturn, hturns, rfl⟩
  · rw [(step_statusAfter hs h).halted, State.fetch_eq_hlt_iff, and_iff_right hs]
  · simp [State.environmentMove_halted, not_engineTurn hturns hturn]

/-- Settles O52: the opcodes without a handler are the four that decode to one. -/
theorem diagnosticBitsAreSticky : Obligations.DiagnosticBitsAreSticky := by
  unfold Obligations.DiagnosticBitsAreSticky
  intro s t hs h
  obtain ⟨-, -, hunimpl, hstub⟩ := step_statusAfter hs h
  exact ⟨hunimpl.trans (or_congr_right s.fetch_eq_unimpl_iff), hstub⟩

end Sys2Proof.Machine

/-! PROOFS. The flags and the status bits as bits beside the rest of the state: an instruction writes the flags
R17's table gives it, and the rest of the next state depends on the flags it reads alone (R17 to R20, R279). -/

namespace Sys2Proof.Machine

open Sys2Proof.Claims

/-! ### The state without its nine bits -/

/-- The nine one-bit elements of the state: the five flags (R14) and the four status bits (R18 to R20). -/
structure Bits where
  flags : Flags
  inte : Bool
  halted : Bool
  unimpl : Bool
  stub : Bool

/-- `s` with other values of the nine bits. -/
def State.withBits (s : State) (x : Bits) : State :=
  { s with flags := x.flags, inte := x.inte, halted := x.halted, unimpl := x.unimpl, stub := x.stub }

/-- The rest of the state: every register, `pc`, `sp`, memory, the parameters and the environment. -/
def State.data (s : State) : State := s.withBits ⟨Flags.clear, false, false, false, false⟩

@[simp] theorem State.data_withBits (s : State) (x : Bits) : (s.withBits x).data = s.data := rfl
@[simp] theorem State.withBits_flags (s : State) (x : Bits) : (s.withBits x).flags = x.flags := rfl
@[simp] theorem State.withBits_a (s : State) (x : Bits) : (s.withBits x).a = s.a := rfl
@[simp] theorem State.withBits_pc (s : State) (x : Bits) : (s.withBits x).pc = s.pc := rfl
@[simp] theorem State.withBits_sp (s : State) (x : Bits) : (s.withBits x).sp = s.sp := rfl
@[simp] theorem State.readByte_withBits (s : State) (x : Bits) (a : Word) :
    (s.withBits x).readByte a = s.readByte a := rfl
@[simp] theorem State.readWord_withBits (s : State) (x : Bits) (a : Word) :
    (s.withBits x).readWord a = s.readWord a := rfl
@[simp] theorem State.top_withBits (s : State) (x : Bits) : (s.withBits x).top = s.top := rfl
@[simp] theorem State.reg_withBits (s : State) (x : Bits) (r : Reg) : (s.withBits x).reg r = s.reg r := by
  cases r <;> rfl
@[simp] theorem State.pair_withBits (s : State) (x : Bits) (rp : RegPair) :
    (s.withBits x).pair rp = s.pair rp := by
  cases rp <;> rfl
@[simp] theorem State.readM_withBits (s : State) (x : Bits) : (s.withBits x).readM = s.readM := rfl

/-! ### What each operation does to the rest of the state -/

@[simp] theorem State.data_advance (s : State) (n : Nat) : (s.advance n).data = s.data.advance n := rfl
@[simp] theorem State.data_goto (s : State) (w : Word) : (s.goto w).data = s.data.goto w := rfl
@[simp] theorem State.data_setFlags (s : State) (f : Flags) : (s.setFlags f).data = s.data := rfl
@[simp] theorem State.data_setAlu (s : State) (r : Alu) : (s.setAlu r).data = s.data.setReg .A r.value := rfl
@[simp] theorem State.data_setInte (s : State) (x : Bool) : (s.setInte x).data = s.data := rfl
@[simp] theorem State.data_setHalted (s : State) (x : Bool) : (s.setHalted x).data = s.data := rfl
@[simp] theorem State.data_reportUnimpl (s : State) : s.reportUnimpl.data = s.data.advance 1 := rfl
@[simp] theorem State.data_setReg (s : State) (r : Reg) (v : Byte) : (s.setReg r v).data = s.data.setReg r v := by
  cases r <;> rfl
@[simp] theorem State.data_setPair (s : State) (rp : RegPair) (w : Word) :
    (s.setPair rp w).data = s.data.setPair rp w := by
  cases rp <;> rfl
@[simp] theorem State.data_writeByte (s : State) (a : Word) (v : Byte) :
    (s.writeByte a v).data = s.data.writeByte a v := rfl
@[simp] theorem State.data_writeM (s : State) (v : Byte) : (s.writeM v).data = s.data.writeM v := rfl
@[simp] theorem State.data_writeWord (s : State) (a w : Word) : (s.writeWord a w).data = s.data.writeWord a w := rfl
@[simp] theorem State.data_push (s : State) (w : Word) : (s.push w).data = s.data.push w := rfl
@[simp] theorem State.data_drop (s : State) : s.drop.data = s.data.drop := rfl
@[simp] theorem State.data_enter (s : State) (ret w : Word) : (s.enter ret w).data = s.data.enter ret w := rfl
@[simp] theorem State.data_leave (s : State) : s.leave.data = s.data.leave := rfl
@[simp] theorem State.data_callTo (s : State) (w : Word) : (s.callTo w).data = s.data.callTo w := rfl
@[simp] theorem State.data_portIn (s : State) (p : Byte) : (s.portIn p).data = s.data.portIn p := by
  cases h : s.params.ioBridge with
  | absent => rw [s.portIn_absent p h, s.data.portIn_absent p h]
  | present =>
    rw [s.portIn_present p h, s.data.portIn_present p h]
    rfl

@[simp] theorem State.data_portOut (s : State) (p : Byte) : (s.portOut p).data = s.data.portOut p := by
  cases h : s.params.ioBridge with
  | absent => rw [s.portOut_absent p h, s.data.portOut_absent p h]
  | present =>
    rw [s.portOut_present p h, s.data.portOut_present p h]
    rfl


@[simp] theorem State.data_jumpIf (s : State) (cond : Cond) (w : Word) :
    (s.jumpIf cond w).data = if s.flags.satisfies cond then s.data.goto w else s.data.advance 3 := by
  rcases s.jumpIf_cases cond w with ⟨h, heq⟩ | ⟨h, heq⟩ <;> rw [h, heq] <;> rfl

@[simp] theorem State.data_callIf (s : State) (cond : Cond) (w : Word) :
    (s.callIf cond w).data = if s.flags.satisfies cond then s.data.callTo w else s.data.advance 3 := by
  rcases s.callIf_cases cond w with ⟨h, heq⟩ | ⟨h, heq⟩ <;> rw [h, heq] <;> rfl

@[simp] theorem State.data_leaveIf (s : State) (cond : Cond) :
    (s.leaveIf cond).data = if s.flags.satisfies cond then s.data.leave else s.data.advance 1 := by
  rcases s.leaveIf_cases cond with ⟨h, heq⟩ | ⟨h, heq⟩ <;> rw [h, heq] <;> rfl

/-! ### The flags each computation keeps, and those it computes without reading a flag (R17)

The conditions are the rows of the table: `n != .AC` for the logic operations, `n != .CY` for INR and DCR,
`n == .CY` for DAD, the rotates, STC and CMC. -/

theorem flags_eq_of_flag {f g : Flags} (h : ∀ n, flag f n = flag g n) : f = g := by
  obtain ⟨s, z, ac, p, cy⟩ := f
  obtain rfl : s = g.s := h .S
  obtain rfl : z = g.z := h .Z
  obtain rfl : ac = g.ac := h .AC
  obtain rfl : p = g.p := h .P
  obtain rfl : cy = g.cy := h .CY
  rfl

theorem flag_logicCore_kept (f : Flags) (v : Byte) {n : FlagName} (h : (n != .AC) = false) :
    flag (logicCore f v).flags n = flag f n := by
  obtain rfl : n = .AC := by simpa using h
  rfl

theorem flag_logicCore_forced (f : Flags) (v : Byte) {n : FlagName} {b : Bool}
    (h : (if n = .CY then some false else none) = some b) : flag (logicCore f v).flags n = b := by
  obtain ⟨rfl, rfl⟩ : n = .CY ∧ false = b := by simpa using h
  rfl

theorem flag_logicCore_congr (f g : Flags) {v w : Byte} (hv : v = w) {n : FlagName} (h : (n != .AC) = true) :
    flag (logicCore f v).flags n = flag (logicCore g w).flags n := by
  subst hv
  cases n with
  | AC => simp at h
  | _ => rfl

/-- INR and DCR keep CY. -/
theorem flag_zspAc_kept (f : Flags) (v : Byte) (b : Bool) {n : FlagName} (h : (n != .CY) = false) :
    flag { f.zsp v with ac := b } n = flag f n := by
  obtain rfl : n = .CY := by simpa using h
  rfl

theorem flag_zspAc_congr (f g : Flags) {v w : Byte} (hv : v = w) {b c : Bool} (hb : b = c) {n : FlagName}
    (h : (n != .CY) = true) : flag { f.zsp v with ac := b } n = flag { g.zsp w with ac := c } n := by
  subst hv hb
  cases n with
  | CY => simp at h
  | _ => rfl

/-- DAD, the rotates, STC and CMC keep every flag but CY. -/
theorem flag_carry_kept (f : Flags) (b : Bool) {n : FlagName} (h : (n == .CY) = false) :
    flag { f with cy := b } n = flag f n := by
  cases n with
  | CY => simp at h
  | _ => rfl

theorem flag_carry_congr (f g : Flags) {b c : Bool} (hb : b = c) {n : FlagName} (h : (n == .CY) = true) :
    flag { f with cy := b } n = flag { g with cy := c } n := by
  obtain rfl : n = .CY := by simpa using h
  exact hb

/-! ### Every instruction keeps R17's table -/

/-- From `s` to `t` the instruction `i` keeps the flags outside the columns "W", "0" and "1" of its row, and
gives those in the columns "0" and "1" their value. -/
structure WritesItsFlags (i : Instr) (s t : State) : Prop where
  kept : ∀ n, writes i n = false → flag t.flags n = flag s.flags n
  forced : ∀ n b, forced i n = some b → flag t.flags n = b

theorem exec_writesItsFlags (i : Instr) (s : State) : ∃ t, exec i s = .next t ∧ WritesItsFlags i s t := by
  cases i with
  | anaR _ | anaM | ani _ | xraR _ | xraM | xri _ | oraR _ | oraM | ori _ =>
    exact ⟨_, rfl, fun _ => flag_logicCore_kept _ _, fun _ _ => flag_logicCore_forced _ _⟩
  | inrR _ | inrM | dcrR _ | dcrM => exact ⟨_, rfl, fun _ => flag_zspAc_kept _ _ _, nofun⟩
  | dad _ | rlc | rrc | ral | rar | cmc => exact ⟨_, rfl, fun _ => flag_carry_kept _ _, nofun⟩
  | stc =>
    refine ⟨_, rfl, fun _ => flag_carry_kept _ _, fun n b h => ?_⟩
    obtain ⟨rfl, rfl⟩ : n = .CY ∧ true = b := by simpa [forced] using h
    rfl
  | _ => exact ⟨_, rfl, by simp [writes], nofun⟩

/-- The instruction `i` run with other bits, of which the flags it reads are the same, gives the same rest of the
state and the same written flags. -/
theorem exec_withBits (i : Instr) (s : State) (x : Bits)
    (h : ∀ n, reads i n = true → flag x.flags n = flag s.flags n) :
    ∃ t u, exec i s = .next t ∧ exec i (s.withBits x) = .next u ∧ u.data = t.data ∧
      ∀ n, writes i n = true → flag u.flags n = flag t.flags n := by
  cases i with
  | anaR _ | anaM | ani _ | xraR _ | xraM | xri _ | oraR _ | oraM | ori _ =>
    exact ⟨_, _, rfl, rfl, by simp [logicCore], fun _ => flag_logicCore_congr _ _ (by simp)⟩
  | inrR _ | inrM | dcrR _ | dcrM =>
    exact ⟨_, _, rfl, rfl, by simp [incCore, decCore], fun _ => flag_zspAc_congr _ _ (by simp) (by simp)⟩
  | dad _ | rlc | rrc | stc =>
    exact ⟨_, _, rfl, rfl, by simp [rotateLeft, rotateRight], fun _ => flag_carry_congr _ _ (by simp)⟩
  | ral | rar | cmc =>
    have hcy : x.flags.cy = s.flags.cy := h .CY rfl
    exact ⟨_, _, rfl, rfl, by simp [rotateLeftCarry, rotateRightCarry, hcy],
      fun _ => flag_carry_congr _ _ (by simp [hcy])⟩
  | adcR _ | adcM | aci _ | sbbR _ | sbbM | sbi _ =>
    have hcy : x.flags.cy = s.flags.cy := h .CY rfl
    exact ⟨_, _, rfl, rfl, by simp [hcy], by simp [hcy]⟩
  | daa =>
    have hac : x.flags.ac = s.flags.ac := h .AC rfl
    have hcy : x.flags.cy = s.flags.cy := h .CY rfl
    refine ⟨_, _, rfl, rfl, by simp [daaCore, hac, hcy], fun n _ => ?_⟩
    cases n <;> simp [daaCore, flag, Flags.zsp, hac, hcy]
  | pushPsw =>
    have hflags : x.flags = s.flags := flags_eq_of_flag fun n => h n rfl
    exact ⟨_, _, rfl, rfl, by simp [hflags], nofun⟩
  | jnz _ | cnz _ | rnz | jz _ | cz _ | rz =>
    have hz : x.flags.z = s.flags.z := h .Z rfl
    exact ⟨_, _, rfl, rfl, by simp [hz], nofun⟩
  | jnc _ | cnc _ | rnc | jc _ | cc _ | rc =>
    have hcy : x.flags.cy = s.flags.cy := h .CY rfl
    exact ⟨_, _, rfl, rfl, by simp [hcy], nofun⟩
  | jpo _ | cpo _ | rpo | jpe _ | cpe _ | rpe =>
    have hp : x.flags.p = s.flags.p := h .P rfl
    exact ⟨_, _, rfl, rfl, by simp [hp], nofun⟩
  | jp _ | cp _ | rp | jm _ | cm _ | rm =>
    have hs : x.flags.s = s.flags.s := h .S rfl
    exact ⟨_, _, rfl, rfl, by simp [hs], nofun⟩
  | _ => exact ⟨_, _, rfl, rfl, by simp, by simp [writes]⟩

/-! ### Next states with the same rest of the state -/

theorem State.reg_data (s : State) (r : Reg) : s.data.reg r = s.reg r := s.reg_withBits _ r

section

variable {s t : State} (h : t.data = s.data)
include h

theorem State.reg_eq_of_data_eq (r : Reg) : t.reg r = s.reg r := by
  rw [← s.reg_data, ← h, t.reg_data]

theorem State.pc_eq_of_data_eq : t.pc = s.pc := (congrArg State.pc h :)
theorem State.sp_eq_of_data_eq : t.sp = s.sp := (congrArg State.sp h :)
theorem State.mem_eq_of_data_eq : t.mem = s.mem := (congrArg State.mem h :)
theorem State.params_eq_of_data_eq : t.params = s.params := (congrArg State.params h :)
theorem State.env_eq_of_data_eq : t.env = s.env := (congrArg State.env h :)

theorem State.readByte_eq_of_data_eq (a : Word) : t.readByte a = s.readByte a :=
  State.readByte_congr (State.mem_eq_of_data_eq h) a

end

/-- Run at two states that differ in flags alone, an instruction gives the same status bits. -/
theorem frame_of_data_eq {i : Instr} {s t u : State} {f : Flags} (hdata : u.data = t.data)
    (ht : StatusAfter i s t) (hu : StatusAfter i (s.setFlags f) u) : Frame t u [] [] where
  regs r _ := State.reg_eq_of_data_eq hdata r
  mem a _ := State.readByte_eq_of_data_eq hdata a
  inte := hu.inte.trans ht.inte.symm
  halted := Bool.eq_iff_iff.2 (hu.halted.trans ht.halted.symm)
  unimpl := Bool.eq_iff_iff.2 (hu.unimpl.trans ht.unimpl.symm)
  stub := hu.stub.trans ht.stub.symm
  params := State.params_eq_of_data_eq hdata
  env := State.env_eq_of_data_eq hdata

/-- Settles O48: other flags are other bits, with the same status bits. -/
theorem flagTableIsKeptByEveryInstruction : Obligations.FlagTableIsKeptByEveryInstruction := by
  unfold Obligations.FlagTableIsKeptByEveryInstruction
  intro i s f hreads
  obtain ⟨t, u, ht, hu, hdata, hwritten⟩ := exec_withBits i s ⟨f, s.inte, s.halted, s.unimpl, s.stub⟩ hreads
  obtain ⟨hkept, hforced⟩ := of_exec_eq (exec_writesItsFlags i s) ht
  have hstatusT : StatusAfter i s t := of_exec_eq (exec_statusAfter i s) ht
  have hstatusU : StatusAfter i (s.setFlags f) u := of_exec_eq (exec_statusAfter i _) hu
  exact ⟨t, u, ht, hu, hkept, hforced, hwritten, State.pc_eq_of_data_eq hdata, State.sp_eq_of_data_eq hdata,
    frame_of_data_eq hdata hstatusT hstatusU⟩

/-- Settles O49: with the flags the same, a written flag depends on no status bit and another is kept. -/
theorem statusBitsAreReadByNoInstruction : Obligations.StatusBitsAreReadByNoInstruction := by
  unfold Obligations.StatusBitsAreReadByNoInstruction
  intro i s inte halted unimpl stub
  obtain ⟨t, u, ht, hu, hdata, hwritten⟩ :=
    exec_withBits i s ⟨s.flags, inte, halted, unimpl, stub⟩ fun _ _ => rfl
  have hflags : u.flags = t.flags := by
    refine flags_eq_of_flag fun n => ?_
    cases hn : writes i n with
    | true => exact hwritten n hn
    | false =>
      have hkeptT := (of_exec_eq (exec_writesItsFlags i s) ht).kept n hn
      have hkeptU := (of_exec_eq (exec_writesItsFlags i _) hu).kept n hn
      exact hkeptU.trans hkeptT.symm
  exact ⟨t, u, ht, hu, State.reg_eq_of_data_eq hdata, hflags, State.readByte_eq_of_data_eq hdata,
    State.pc_eq_of_data_eq hdata, State.sp_eq_of_data_eq hdata, State.params_eq_of_data_eq hdata,
    State.env_eq_of_data_eq hdata⟩

end Sys2Proof.Machine

/-! PROOFS. Memory: which bytes and registers an instruction writes, the stack as a place to keep a Word, and the
next fetch as a read of what was stored (R33, R34, R39, R43). -/

namespace Sys2Proof.Machine

open Sys2Proof.Claims

/-! ### The bytes the rules store are the model's writes (R33, R38) -/

/-- Where the rule stores nothing, the byte is the one before. -/
theorem byteAfter_of_not_mem {i : Instr} {s : State} {a : Word} (h : a ∉ storedAt i s) :
    byteAfter i s a = s.readByte a := by
  have hnone : ((storedAt i s).zip (storedValues i s)).lookup a = none := by
    refine List.lookup_eq_none_iff.2 fun p hp => ?_
    have hkey : p.1 ∈ storedAt i s := (List.of_mem_zip hp).1
    exact bne_iff_ne.2 fun hap => h (hap ▸ hkey)
  rw [byteAfter, hnone, Option.getD_none]

section

variable {i : Instr} {s : State}

theorem byteAfter_eq_writeByte {k : Word} {v : Byte} (hat : storedAt i s = [k]) (hvalues : storedValues i s = [v])
    (a : Word) : byteAfter i s a = (s.writeByte k v).readByte a := by
  rw [State.readByte_writeByte]
  split
  next hk => simp [byteAfter, hat, hvalues, hk]
  next hk => exact byteAfter_of_not_mem (by simp [hat, hk])

/-- Two stores to different addresses: their order does not show. -/
theorem byteAfter_eq_writeByte_writeByte {k l : Word} {v w : Byte} (hne : l ≠ k) (hat : storedAt i s = [k, l])
    (hvalues : storedValues i s = [v, w]) (a : Word) :
    byteAfter i s a = ((s.writeByte k v).writeByte l w).readByte a := by
  rw [State.readByte_writeByte, State.readByte_writeByte]
  split
  next hl => simp [byteAfter, hat, hvalues, hl, List.lookup, beq_false_of_ne hne]
  next hl =>
    split
    next hk => simp [byteAfter, hat, hvalues, hk]
    next hk => exact byteAfter_of_not_mem (by simp [hat, hk, hl])

/-- SHLD and XTHL store `L` below `H` (R79, R215). -/
theorem byteAfter_eq_writeWord_HL {k : Word} (hat : storedAt i s = [k, k + 1])
    (hvalues : storedValues i s = [s.l, s.h]) (a : Word) :
    byteAfter i s a = (s.writeWord k (s.pair .HL)).readByte a := by
  rw [State.writeWord, State.pair_HL, loByte_joinBytes, hiByte_joinBytes]
  exact byteAfter_eq_writeByte_writeByte (by bv_omega) hat hvalues a

theorem byteAfter_eq_push {w : Word} (hat : storedAt i s = [s.sp - 1, s.sp - 2])
    (hvalues : storedValues i s = [high w, low w]) (a : Word) : byteAfter i s a = (s.push w).readByte a := by
  rw [high_eq_hiByte, low_eq_loByte] at hvalues
  exact byteAfter_eq_writeByte_writeByte (by bv_omega) hat hvalues a

/-- A conditional call stores the return address when it is taken and nothing when it is not (R171 to R178). -/
theorem byteAfter_eq_callIf {cond : Cond} (w : Word) (hcond : condOf i = some cond)
    (hat : storedAt i s = if taken i s.flags then [s.sp - 1, s.sp - 2] else [])
    (hvalues : storedValues i s = [high (s.pc + 3), low (s.pc + 3)]) (a : Word) :
    byteAfter i s a = (s.callIf cond w).readByte a := by
  rw [taken_eq_satisfies, hcond, Option.elim_some] at hat
  rcases s.callIf_cases cond w with ⟨hc, heq⟩ | ⟨hc, heq⟩
  · rw [heq, State.readByte_callTo, byteAfter_eq_push (by rw [hat, if_pos hc]) hvalues]
  · rw [heq, State.readByte_advance, byteAfter_of_not_mem (by simp [hat, hc])]

end

/-- Every byte of memory after an instruction, by the kind of store its meaning makes. -/
theorem exec_readByte (i : Instr) (s : State) :
    ∃ t, exec i s = .next t ∧ ∀ a, t.readByte a = byteAfter i s a := by
  cases i with
  | movMR _ | mviM _ | inrM | dcrM | sta _ | stax _ =>
    exact ⟨_, rfl, fun a => (byteAfter_eq_writeByte rfl rfl a).symm⟩
  | shld _ | xthl => exact ⟨_, rfl, fun a => (byteAfter_eq_writeWord_HL rfl rfl a).symm⟩
  | push _ | rst _ | call _ => exact ⟨_, rfl, fun a => (byteAfter_eq_push rfl rfl a).symm⟩
  | pushPsw =>
    have hvalues : storedValues .pushPsw s =
        [high (joinBytes s.a s.flags.toPsw), low (joinBytes s.a s.flags.toPsw)] := by
      rw [high_eq_hiByte, low_eq_loByte, hiByte_joinBytes, loByte_joinBytes, storedValues]
    exact ⟨_, rfl, fun a => (byteAfter_eq_push rfl hvalues a).symm⟩
  | cnz w | cz w | cnc w | cc w | cpo w | cpe w | cp w | cm w =>
    exact ⟨_, rfl, fun a => (byteAfter_eq_callIf w rfl rfl rfl a).symm⟩
  | _ =>
    refine ⟨_, rfl, fun a => ?_⟩
    rw [byteAfter_of_not_mem List.not_mem_nil]
    simp

/-! ### The registers an instruction writes (R70 to R228) -/

@[simp] theorem State.reg_writeM (s : State) (v : Byte) (r : Reg) : (s.writeM v).reg r = s.reg r :=
  s.reg_writeByte _ v r

@[simp] theorem State.reg_setPair_SP (s : State) (w : Word) (r : Reg) : (s.setPair .SP w).reg r = s.reg r :=
  s.reg_setPair_of_not_mem w List.not_mem_nil

/-- Outside its destinations an instruction leaves every register as it was. -/
theorem exec_reg_of_not_mem (i : Instr) (s : State) :
    ∃ t, exec i s = .next t ∧ ∀ r, r ∉ destRegs i → t.reg r = s.reg r := by
  cases i with
  | lxi rp _ | inx rp | dcx rp | pop rp =>
    refine ⟨_, rfl, fun r (hr : r ∉ pairRegs rp) => ?_⟩
    simp [State.reg_setPair_of_not_mem _ _ hr]
  | lhld _ | dad _ | xthl =>
    refine ⟨_, rfl, fun r (hr : r ∉ pairRegs .HL) => ?_⟩
    simp [State.reg_setPair_of_not_mem _ _ hr]
  | xchg =>
    refine ⟨_, rfl, fun r (hr : r ∉ pairRegs .DE ++ pairRegs .HL) => ?_⟩
    obtain ⟨hDE, hHL⟩ := not_or.1 (mt List.mem_append.2 hr)
    simp [State.reg_setPair_of_not_mem _ _ hDE, State.reg_setPair_of_not_mem _ _ hHL]
  | _ => exact ⟨_, rfl, by simp +contextual [destRegs]⟩

/-- Settles O8: a byte that no store names is the one before, and so is a register that is no destination. -/
theorem storesAndRegistersOnlyWhereTheRulesSay : Obligations.StoresAndRegistersOnlyWhereTheRulesSay := by
  unfold Obligations.StoresAndRegistersOnlyWhereTheRulesSay
  intro i s t ht
  have hreg := of_exec_eq (exec_reg_of_not_mem i s) ht
  have hbyte := of_exec_eq (exec_readByte i s) ht
  exact ⟨hreg, fun a ha => (hbyte a).trans (byteAfter_of_not_mem ha)⟩

/-! ### The stack keeps a Word (R39) -/

@[simp] theorem State.top_advance (s : State) (n : Nat) : (s.advance n).top = s.top := rfl

/-- The return address a call leaves on top of the stack (R170). -/
@[simp] theorem State.top_callTo (s : State) (w : Word) : (s.callTo w).top = s.pc + 3 := s.top_push _

/-- Settles O33: RET pops the return address, and `sp - 2 + 2 = sp` at either end of memory. -/
theorem callThenRetComesBack : Obligations.CallThenRetComesBack := by
  unfold Obligations.CallThenRetComesBack
  intro s w
  have hpc : (s.callTo w).leave.pc = s.pc + 3 := by rw [State.leave_pc, State.top_callTo]
  have hsp : (s.callTo w).leave.sp = s.sp := by rw [State.leave_sp, State.callTo_sp, BitVec.sub_add_cancel]
  exact ⟨s.callTo w, (s.callTo w).leave, rfl, rfl, hpc, hsp, by simp, by simp⟩

/-- Settles O36: POP takes the pushed Word, and the PSW byte converts back to the flags it was made of. -/
theorem pushThenPopMovesThePair : Obligations.PushThenPopMovesThePair := by
  unfold Obligations.PushThenPopMovesThePair
  refine ⟨fun s rp q _ hq => ?_, fun s => ?_⟩
  · refine ⟨_, _, rfl, rfl, ?_, ?_, by simp, fun r hr => ?_⟩
    · rw [State.pair_advance, State.pair_setPair_self, State.top_advance, State.top_push]
    · simp [RegPair.ne_SP_of_stackable hq]
    · simp [State.reg_setPair_of_not_mem _ _ hr]
  · refine ⟨_, _, rfl, rfl, ?_, by simp, fun r => ?_⟩
    · simp [State.top_push]
    · cases r <;> simp [State.top_push, State.reg]

/-! ### The next fetch reads what was stored (R34, R43) -/

/-- The fetched instruction is what the three bytes at `pc` decode to (R50, R51). -/
theorem State.fetch_of_decode {s : State} {i : Instr} {rest : List Byte}
    (h : decode [s.readByte s.pc, s.readByte (s.pc + 1), s.readByte (s.pc + 2)] = .ok (i, rest)) : s.fetch = i := by
  unfold State.fetch
  unfold decode at h
  dsimp only at h ⊢
  split at h
  next hlength =>
    cases h
    simp only [hlength]
  next hlength hbytes =>
    cases hbytes
    cases h
    simp only [hlength]
  next hlength hbytes =>
    cases hbytes
    cases h
    simp only [hlength]
  next => cases h

/-- With no action of the environment listed, the step executes the fetched instruction (R50). -/
theorem step_of_turns_eq_nil {s : State} (h : s.env.turns = []) : step s = exec s.fetch s := by
  rw [step_of_engineTurn (.inl h), h, List.tail_nil, ← h, State.withTurns_self]

/-- No instruction touches the moves to come. -/
theorem exec_turns (i : Instr) (s : State) : ∃ t, exec i s = .next t ∧ t.env.turns = s.env.turns := by
  cases i with
  | inPort p | outPort p => cases h : s.params.ioBridge <;> exact ⟨_, rfl, by simp [h]⟩
  | _ => exact ⟨_, rfl, by simp⟩

/-- An instruction's stores and its `pc` together: both are computed from the state before it. -/
theorem exec_readByte_pc (i : Instr) (s : State) :
    ∃ t, exec i s = .next t ∧ t.pc = pcAfter i s ∧ ∀ a, t.readByte a = byteAfter i s a := by
  obtain ⟨t, ht, hbyte⟩ := exec_readByte i s
  exact ⟨t, ht, of_exec_eq (everyInstructionEndsAtTheRulesPc i s) ht, hbyte⟩

/-- Settles O54: the next fetch reads the bytes `exec` left, and a step fetches before it stores. -/
theorem storesAreSeenByTheNextFetch : Obligations.StoresAreSeenByTheNextFetch := by
  unfold Obligations.StoresAreSeenByTheNextFetch
  refine ⟨fun i s => ?_, fun s i rest hturns hdecode => ?_⟩
  · obtain ⟨t, ht, hpc, hbyte⟩ := exec_readByte_pc i s
    refine ⟨t, ht, hbyte, fun j rest hturns hdecode => ?_⟩
    have hnext : t.env.turns = [] := (of_exec_eq (exec_turns i s) ht).trans hturns
    simp only [← hbyte, ← hpc] at hdecode
    rw [step_of_turns_eq_nil hnext, State.fetch_of_decode hdecode]
  · rw [step_of_turns_eq_nil hturns, State.fetch_of_decode hdecode]
    exact exec_readByte_pc i s

end Sys2Proof.Machine

/-! PROOFS. The encoding: the decoder and the encoder are inverse to each other on well-formed instructions, and the
opcode byte alone fixes an instruction's length (R50 to R61). -/

namespace Sys2Proof.Machine

open Sys2Proof.Claims

/-! ### The fields of an opcode put together from fields (R52, R55, R56) -/

@[simp] theorem fieldX_opXYZ (x : BitVec 2) (y z : BitVec 3) : fieldX (opXYZ x y z) = x.toFin := by
  revert x y z
  decide

@[simp] theorem fieldY_opXYZ (x : BitVec 2) (y z : BitVec 3) : fieldY (opXYZ x y z) = y.toFin := by
  revert x y z
  decide

@[simp] theorem fieldZ_opXYZ (x : BitVec 2) (y z : BitVec 3) : fieldZ (opXYZ x y z) = z.toFin := by
  revert x y z
  decide

/-- The field `yyy` as RST and the NOP synonyms keep it. -/
@[simp] theorem extractLsb'_opXYZ (x : BitVec 2) (y z : BitVec 3) : (opXYZ x y z).extractLsb' 3 3 = y := by
  revert x y z
  decide

@[simp] theorem fieldX_opXPQZ (x p : BitVec 2) (q : BitVec 1) (z : BitVec 3) :
    fieldX (opXPQZ x p q z) = x.toFin := by
  revert x p q z
  decide

@[simp] theorem fieldP_opXPQZ (x p : BitVec 2) (q : BitVec 1) (z : BitVec 3) :
    fieldP (opXPQZ x p q z) = p.toFin := by
  revert x p q z
  decide

@[simp] theorem fieldQ_opXPQZ (x p : BitVec 2) (q : BitVec 1) (z : BitVec 3) :
    fieldQ (opXPQZ x p q z) = q.toFin := by
  revert x p q z
  decide

@[simp] theorem fieldZ_opXPQZ (x p : BitVec 2) (q : BitVec 1) (z : BitVec 3) :
    fieldZ (opXPQZ x p q z) = z.toFin := by
  revert x p q z
  decide

@[simp] theorem regOfNumber_number (r : Reg) : regOfNumber r.number.toFin = some r := by
  cases r <;> rfl

@[simp] theorem regOfNumber_numberM : regOfNumber numberM.toFin = none := rfl

@[simp] theorem pairOfNumber_number (rp : RegPair) : pairOfNumber rp.number.toFin = rp := by
  cases rp <;> rfl

/-! ### The decoder undoes the encoder -/

/-- The instruction in the first bytes of a sequence, where a missing byte counts as 0. -/
def decodeFirst (bs : List Byte) : Instr := decodeOp (bs.getD 0 0) (bs.getD 1 0) (bs.getD 2 0)

theorem decodeFirst_encode {i : Instr} (h : i.wf = true) : decodeFirst (encode i) = i := by
  cases i with
  -- the instructions with terms that no opcode encodes
  | push rp | pop rp | ldax rp | stax rp => cases rp <;> cases h <;> rfl
  | nopSyn y =>
    revert y
    decide
  | unimpl op => cases op <;> rfl
  -- quadrant 1
  | movRR | movRM | movMR | hlt => simp [decodeFirst, encode, decodeOp, decodeMove]
  -- quadrant 2
  | addR | addM | adcR | adcM | subR | subM | sbbR | sbbM | anaR | anaM | xraR | xraM | oraR | oraM | cmpR | cmpM =>
    simp [decodeFirst, encode, decodeOp, decodeAccumulator]
  -- quadrant 0
  | nop | lxi | dad | shld | lhld | sta | lda | inx | dcx | inrR | inrM | dcrR | dcrM | mviR | mviM
  | rlc | rrc | ral | rar | daa | cma | stc | cmc =>
    simp [decodeFirst, encode, encodeF3, decodeOp, decodeMisc]
  -- quadrant 3
  | _ => simp [decodeFirst, encode, encodeF3, decodeOp, decodeControl]

theorem exists_decodeOp_eq {i : Instr} (h : i.wf = true) : ∃ op b2 b3, decodeOp op b2 b3 = i :=
  ⟨_, _, _, decodeFirst_encode h⟩

theorem encode_injOn_wf {i j : Instr} (hi : i.wf = true) (hj : j.wf = true) (h : encode i = encode j) : i = j := by
  rw [← decodeFirst_encode hi, h, decodeFirst_encode hj]

/-! ### The encoder undoes the decoder

What depends on the opcode alone is checked on the 256 opcodes with arbitrary operand bytes; the operand bytes are
followed through the decoder's branches. -/

theorem wf_decodeOp (op b2 b3 : Byte) : (decodeOp op b2 b3).wf = true := by
  revert op
  exact of_decide_eq_true rfl

theorem length_decodeOp (op b2 b3 : Byte) : (decodeOp op b2 b3).length = opLength op := by
  revert op
  exact of_decide_eq_true rfl

theorem head?_encode_decodeOp (op b2 b3 : Byte) : (encode (decodeOp op b2 b3)).head? = some op := by
  revert op
  exact of_decide_eq_true rfl

/-- The bytes after the opcode are `b2` and `b3`, as far as the instruction's length goes (R51, R58). -/
def HasOperandBytes (b2 b3 : Byte) (i : Instr) : Prop := (encode i).tail = [b2, b3].take (i.length - 1)

theorem hasOperandBytes_decodeMisc (op b2 b3 : Byte) : HasOperandBytes b2 b3 (decodeMisc op b2 b3) := by
  unfold decodeMisc HasOperandBytes
  repeat' split
  all_goals simp [encode, encodeF3, Instr.length]

theorem hasOperandBytes_decodeMove (op b2 b3 : Byte) : HasOperandBytes b2 b3 (decodeMove op) := by
  unfold decodeMove
  split <;> rfl

theorem hasOperandBytes_decodeAccumulator (op b2 b3 : Byte) : HasOperandBytes b2 b3 (decodeAccumulator op) := by
  unfold decodeAccumulator
  split <;> split <;> rfl

theorem hasOperandBytes_decodeControl (op b2 b3 : Byte) : HasOperandBytes b2 b3 (decodeControl op b2 b3) := by
  unfold decodeControl HasOperandBytes
  repeat' split
  all_goals simp [encode, encodeF3, Instr.length]

theorem hasOperandBytes_decodeOp (op b2 b3 : Byte) : HasOperandBytes b2 b3 (decodeOp op b2 b3) := by
  unfold decodeOp
  split
  · exact hasOperandBytes_decodeMisc op b2 b3
  · exact hasOperandBytes_decodeMove op b2 b3
  · exact hasOperandBytes_decodeAccumulator op b2 b3
  · exact hasOperandBytes_decodeControl op b2 b3

theorem opLength_eq_lengthOf (op : Byte) : opLength op = lengthOf op := by
  revert op
  decide

theorem opLength_cases (op : Byte) : opLength op = 1 ∨ opLength op = 2 ∨ opLength op = 3 := by
  rw [opLength_eq_lengthOf, lengthOf]
  split_ifs <;> simp

theorem encode_decodeOp (op b2 b3 : Byte) : encode (decodeOp op b2 b3) = [op, b2, b3].take (opLength op) := by
  obtain ⟨n, hn⟩ : ∃ n, opLength op = n + 1 := by
    rcases opLength_cases op with h | h | h <;> exact ⟨_, h⟩
  have htail := hasOperandBytes_decodeOp op b2 b3
  rw [HasOperandBytes, length_decodeOp, hn] at htail
  rw [List.eq_cons_of_mem_head? (head?_encode_decodeOp op b2 b3), htail, hn]
  rfl

/-- Operand bytes past the opcode's length change nothing (R51). -/
theorem decodeOp_congr {op b2 b3 c2 c3 : Byte}
    (h : [op, b2, b3].take (opLength op) = [op, c2, c3].take (opLength op)) :
    decodeOp op b2 b3 = decodeOp op c2 c3 :=
  encode_injOn_wf (wf_decodeOp op b2 b3) (wf_decodeOp op c2 c3) (by rw [encode_decodeOp, h, encode_decodeOp])

/-! ### Decoding a byte sequence (R50, R51) -/

/-- A sequence decodes where it begins with as many bytes as its opcode's length says, to what they stand for. -/
theorem decode_eq_ok_iff (bs rest : List Byte) (i : Instr) :
    decode bs = .ok (i, rest) ↔
      ∃ op b2 b3, decodeOp op b2 b3 = i ∧ [op, b2, b3].take (opLength op) ++ rest = bs := by
  constructor
  · intro h
    unfold decode at h
    split at h
    · cases h
    next op tail =>
      split at h
      next hlength =>
        cases h
        exact ⟨op, 0, 0, rfl, by simp [hlength]⟩
      next b2 tail hlength =>
        cases h
        exact ⟨op, b2, 0, rfl, by simp [hlength]⟩
      next b2 b3 tail hlength =>
        cases h
        exact ⟨op, b2, b3, rfl, by simp [hlength]⟩
      next => cases h
  · rintro ⟨op, b2, b3, rfl, rfl⟩
    rcases opLength_cases op with h | h | h
    · have hop : decodeOp op 0 0 = decodeOp op b2 b3 := decodeOp_congr (by simp [h])
      simpa [decode, h] using hop
    · have hop : decodeOp op b2 0 = decodeOp op b2 b3 := decodeOp_congr (by simp [h])
      simpa [decode, h] using hop
    · simp [decode, h]

/-- Whatever bytes follow the opcode, three bytes hold a whole instruction. -/
theorem decode_three_bytes (op b2 b3 : Byte) (rest : List Byte) :
    decode (op :: b2 :: b3 :: rest) = .ok (decodeOp op b2 b3, (op :: b2 :: b3 :: rest).drop (opLength op)) := by
  refine (decode_eq_ok_iff _ _ _).2 ⟨op, b2, b3, rfl, ?_⟩
  rcases opLength_cases op with h | h | h <;> simp [h]

/-! ### The statements -/

/-- Settles O1: some opcode and operand bytes decode to the instruction, and they are what the encoder writes. -/
theorem decodeOfEncodeIsTheInstruction : Obligations.DecodeOfEncodeIsTheInstruction := by
  unfold Obligations.DecodeOfEncodeIsTheInstruction
  intro i rest h
  obtain ⟨op, b2, b3, rfl⟩ := exists_decodeOp_eq h
  exact (decode_eq_ok_iff _ _ _).2 ⟨op, b2, b3, rfl, by rw [encode_decodeOp]⟩

/-- Settles O2: the bytes decode as an opcode with operand bytes, and the encoder gives those back. -/
theorem encodeOfDecodeIsTheBytes : Obligations.EncodeOfDecodeIsTheBytes := by
  unfold Obligations.EncodeOfDecodeIsTheBytes
  intro bs rest i h
  obtain ⟨op, b2, b3, rfl, rfl⟩ := (decode_eq_ok_iff _ _ _).1 h
  exact ⟨wf_decodeOp op b2 b3, by rw [encode_decodeOp]⟩

/-- Settles O3: the decoder's length is R51's, and the bytes past it are not part of the encoding. -/
theorem opcodeAloneFixesTheLength : Obligations.OpcodeAloneFixesTheLength := by
  unfold Obligations.OpcodeAloneFixesTheLength
  intro op b2 b3 rest
  simp only [← opLength_eq_lengthOf]
  refine ⟨decodeOp op b2 b3, decode_three_bytes op b2 b3 rest, length_decodeOp op b2 b3,
    head?_encode_decodeOp op b2 b3, opLength_cases op, fun c2 c3 h2 h3 => ?_⟩
  have hop : decodeOp op c2 c3 = decodeOp op b2 b3 := by
    apply decodeOp_congr
    rcases opLength_cases op with h | h | h
    · simp [h]
    · simp [h, h2 h.ge]
    · simp [h, h2 (by omega), h3 h]
  rw [decode_three_bytes, hop]

end Sys2Proof.Machine

/-! PROOFS. Data transfer (40_data_transfer.md, R70 to R82). What bytes an instruction has and what it leaves alone
is said for every instruction; each transfer then adds the value it moves. -/

namespace Sys2Proof.Machine

open Sys2Proof.Claims

/-! ### The bytes of an instruction, written as the rules write them (R51, R52, R55, R56) -/

/-- An opcode is the number its fields `x`, `y`, `z` make. -/
theorem opXYZ_eq_opc {x : BitVec 2} {y z : BitVec 3} {n : Nat} (h : 64 * x.toNat + 8 * y.toNat + z.toNat = n) :
    opXYZ x y z = opc n := by
  subst h
  revert x y z
  decide

/-- An opcode is the number its fields `x`, `p`, `q`, `z` make. -/
theorem opXPQZ_eq_opc {x p : BitVec 2} {q : BitVec 1} {z : BitVec 3} {n : Nat}
    (h : 64 * x.toNat + 16 * p.toNat + 8 * q.toNat + z.toNat = n) : opXPQZ x p q z = opc n := by
  subst h
  revert x p q z
  decide

@[simp] theorem Reg.toNat_number (r : Reg) : r.number.toNat = regCode r := by
  cases r <;> rfl

@[simp] theorem toNat_numberM : numberM.toNat = 6 := rfl

@[simp] theorem RegPair.toNat_number (rp : RegPair) : rp.number.toNat = pairCode rp := by
  cases rp <;> rfl

theorem encodes_of_encode_eq {i : Instr} {bs : List Byte} (hwf : i.wf = true) (h : encode i = bs) : Encodes i bs := by
  subst h
  simpa [Encodes] using decodeOfEncodeIsTheInstruction i [] hwf

/-- A one-byte instruction of fields `x`, `y`, `z`. -/
theorem encodes_opXYZ {i : Instr} {x : BitVec 2} {y z : BitVec 3} {n : Nat} (hwf : i.wf = true)
    (h : encode i = [opXYZ x y z]) (hn : 64 * x.toNat + 8 * y.toNat + z.toNat = n) : Encodes i [opc n] :=
  encodes_of_encode_eq hwf (h.trans (by rw [opXYZ_eq_opc hn]))

/-- A one-byte instruction of fields `x`, `p`, `q`, `z`. -/
theorem encodes_opXPQZ {i : Instr} {x p : BitVec 2} {q : BitVec 1} {z : BitVec 3} {n : Nat} (hwf : i.wf = true)
    (h : encode i = [opXPQZ x p q z]) (hn : 64 * x.toNat + 16 * p.toNat + 8 * q.toNat + z.toNat = n) :
    Encodes i [opc n] :=
  encodes_of_encode_eq hwf (h.trans (by rw [opXPQZ_eq_opc hn]))

/-- A three-byte instruction has its Word's low half before its high half (R58). -/
theorem encodes_encodeF3 {i : Instr} {op : Byte} {w : Word} (hwf : i.wf = true) (h : encode i = encodeF3 op w) :
    Encodes i [op, low w, high w] :=
  encodes_of_encode_eq hwf (by rw [h, encodeF3, low_eq_loByte, high_eq_hiByte])

theorem wf_of_encodes {i : Instr} {bs : List Byte} (h : Encodes i bs) : i.wf = true :=
  (encodeOfDecodeIsTheBytes bs [] i h).1

theorem length_of_encodes {i : Instr} {bs : List Byte} (h : Encodes i bs) : bs.length = i.length := by
  obtain ⟨op, b2, b3, rfl, rfl⟩ := (decode_eq_ok_iff bs [] i).1 h
  rw [length_decodeOp]
  rcases opLength_cases op with hop | hop | hop <;> simp [hop]

/-! ### What an instruction leaves alone (R12, R13, R33) -/

/-- The instructions that write a status bit or the record of the environment (R220 to R224, R228). -/
def writesSystem : Instr → Bool
  | .inPort _ | .outPort _ | .ei | .di | .hlt | .unimpl _ => true
  | _ => false

theorem exec_keepsSystem {i : Instr} (h : writesSystem i = false) (s : State) :
    ∃ t, exec i s = .next t ∧ t.inte = s.inte ∧ t.halted = s.halted ∧ t.unimpl = s.unimpl ∧ t.stub = s.stub ∧
      t.params = s.params ∧ t.env = s.env := by
  cases i with
  | inPort _ | outPort _ | ei | di | hlt | unimpl _ => cases h
  | _ => exact ⟨_, rfl, by simp⟩

theorem exec_frame {i : Instr} {s t : State} (hi : writesSystem i = false) (hexec : exec i s = .next t) :
    Frame s t (destRegs i) (storedAt i s) := by
  obtain ⟨hregs, hmem⟩ := storesAndRegistersOnlyWhereTheRulesSay i s t hexec
  obtain ⟨hinte, hhalted, hunimpl, hstub, hparams, henv⟩ := of_exec_eq (exec_keepsSystem hi s) hexec
  exact ⟨hregs, hmem, hinte, hhalted, hunimpl, hstub, hparams, henv⟩

/-- An instruction whose rules give `pc` its length and leave `sp` alone falls through its bytes. -/
theorem exec_fallsThrough {i : Instr} {s t : State} {bs : List Byte} (hbs : Encodes i bs)
    (hexec : exec i s = .next t) (hi : writesSystem i = false)
    (hpc : pcAfter i s = s.pc + BitVec.ofNat 16 i.length) (hsp : spAfter i s = s.sp) :
    FallsThrough s t bs (destRegs i) (storedAt i s) where
  toFrame := exec_frame hi hexec
  pc := by rw [of_exec_eq (everyInstructionEndsAtTheRulesPc i s) hexec, hpc, length_of_encodes hbs]
  sp := by rw [of_exec_eq (everyInstructionMovesSpAsTheRulesSay i s (wf_of_encodes hbs)) hexec, hsp]

/-! ### The values read back -/

@[simp] theorem State.readByte_writeByte_self (s : State) (a : Word) (v : Byte) :
    (s.writeByte a v).readByte a = v := by
  rw [State.readByte_writeByte, if_pos rfl]

@[simp] theorem State.readByte_writeM_self (s : State) (v : Byte) : (s.writeM v).readByte (s.pair .HL) = v :=
  s.readByte_writeByte_self _ v

theorem State.readByte_writeWord_low (s : State) (a w : Word) :
    (s.writeWord a w).readByte a = loByte w := by
  have hne : a ≠ a + 1 := by bv_omega
  rw [State.readByte_writeWord, if_neg hne, if_pos rfl]

theorem State.readByte_writeWord_high (s : State) (a w : Word) :
    (s.writeWord a w).readByte (a + 1) = hiByte w := by
  rw [State.readByte_writeWord, if_pos rfl]

/-! ### The statements -/

/-- Settles O10: the opcode is put together from the two operand fields, and what is not written is the frame. -/
theorem movCopiesARegisterOrTheCellAtHL : Obligations.MovCopiesARegisterOrTheCellAtHL := by
  unfold Obligations.MovCopiesARegisterOrTheCellAtHL
  refine ⟨fun s d r => ?_, fun s d => ?_, fun s r => ?_⟩
  · have hbs : Encodes (.movRR d r) [opc (0x40 + 8 * regCode d + regCode r)] := encodes_opXYZ rfl rfl (by simp)
    exact ⟨hbs, _, rfl, by simp, by simp, exec_fallsThrough hbs rfl rfl rfl rfl⟩
  · have hbs : Encodes (.movRM d) [opc (0x46 + 8 * regCode d)] := encodes_opXYZ rfl rfl (by simp; omega)
    exact ⟨hbs, _, rfl, by simp [State.readM], by simp, exec_fallsThrough hbs rfl rfl rfl rfl⟩
  · have hbs : Encodes (.movMR r) [opc (0x70 + regCode r)] := encodes_opXYZ rfl rfl (by simp)
    exact ⟨hbs, _, rfl, by simp, by simp, exec_fallsThrough hbs rfl rfl rfl rfl⟩

/-- Settles O11: as for MOV, with byte 2 in place of the source. -/
theorem mviWritesTheImmediate : Obligations.MviWritesTheImmediate := by
  unfold Obligations.MviWritesTheImmediate
  refine ⟨fun s d d8 => ?_, fun s d8 => ?_⟩
  · have hop : opXYZ 0 d.number 6 = opc (0x06 + 8 * regCode d) := opXYZ_eq_opc (by simp; omega)
    have hbs : Encodes (.mviR d d8) [opc (0x06 + 8 * regCode d), d8] := encodes_of_encode_eq rfl (by rw [encode, hop])
    exact ⟨hbs, _, rfl, by simp, by simp, exec_fallsThrough hbs rfl rfl rfl rfl⟩
  · have hbs : Encodes (.mviM d8) [0x36, d8] := encodes_of_encode_eq rfl rfl
    exact ⟨hbs, _, rfl, by simp, by simp, exec_fallsThrough hbs rfl rfl rfl rfl⟩

/-- Settles O12: the written Word's halves are its bytes, and only the fourth pair is `sp`. -/
theorem lxiWritesThePair : Obligations.LxiWritesThePair := by
  unfold Obligations.LxiWritesThePair
  intro s rp b2 b3
  have hhigh : hiByte (word b3 b2) = b3 := by rw [word_eq_joinBytes, hiByte_joinBytes]
  have hlow : loByte (word b3 b2) = b2 := by rw [word_eq_joinBytes, loByte_joinBytes]
  have hop : opXPQZ 0 rp.number 0 1 = opc (0x01 + 16 * pairCode rp) := opXPQZ_eq_opc (by simp; omega)
  have hbs : Encodes (.lxi rp (word b3 b2)) [opc (0x01 + 16 * pairCode rp), b2, b3] :=
    encodes_of_encode_eq rfl (by rw [encode, encodeF3, hop, hhigh, hlow])
  have hsystem : writesSystem (.lxi rp (word b3 b2)) = false := rfl
  refine ⟨hbs, _, rfl, ?_, ?_, ?_, by simp, by simp, by simp, exec_frame hsystem rfl⟩
  · rintro rfl
    exact ⟨hhigh, hlow⟩
  · rintro rfl
    exact ⟨hhigh, hlow⟩
  · rintro rfl
    exact ⟨hhigh, hlow⟩

/-- Settles O13: the four ways to an address, a read and a write of one byte each. -/
theorem directAndIndirectMovesOfA : Obligations.DirectAndIndirectMovesOfA := by
  unfold Obligations.DirectAndIndirectMovesOfA
  refine ⟨fun s a16 => ?_, fun s a16 => ?_, fun s rp hwf => ?_, fun s rp hwf => ?_⟩
  · have hbs : Encodes (.lda a16) [0x3A, low a16, high a16] := encodes_encodeF3 rfl rfl
    exact ⟨hbs, _, rfl, rfl, rfl, exec_fallsThrough hbs rfl rfl rfl rfl⟩
  · have hbs : Encodes (.sta a16) [0x32, low a16, high a16] := encodes_encodeF3 rfl rfl
    exact ⟨hbs, _, rfl, s.readByte_writeByte_self a16 s.a, rfl, exec_fallsThrough hbs rfl rfl rfl rfl⟩
  · have hbs : Encodes (.ldax rp) [opc (0x0A + 16 * pairCode rp)] := encodes_opXPQZ hwf rfl (by simp; omega)
    exact ⟨hbs, _, rfl, rfl, rfl, exec_fallsThrough hbs rfl rfl rfl rfl⟩
  · have hbs : Encodes (.stax rp) [opc (0x02 + 16 * pairCode rp)] := encodes_opXPQZ hwf rfl (by simp; omega)
    exact ⟨hbs, _, rfl, s.readByte_writeByte_self (s.pair rp) s.a, rfl, exec_fallsThrough hbs rfl rfl rfl rfl⟩

/-- Settles O14: the two bytes are the halves of the Word at the address and of `H:L`. -/
theorem lhldAndShldMoveHL : Obligations.LhldAndShldMoveHL := by
  unfold Obligations.LhldAndShldMoveHL
  refine ⟨fun s a16 => ?_, fun s a16 => ?_⟩
  · have hbs : Encodes (.lhld a16) [0x2A, low a16, high a16] := encodes_encodeF3 rfl rfl
    exact ⟨hbs, _, rfl, by simp [State.readWord], by simp [State.readWord], by simp,
      exec_fallsThrough hbs rfl rfl rfl rfl⟩
  · have hbs : Encodes (.shld a16) [0x22, low a16, high a16] := encodes_encodeF3 rfl rfl
    have hlow : (s.writeWord a16 (s.pair .HL)).readByte a16 = s.l := by
      rw [State.readByte_writeWord_low, State.pair_HL, loByte_joinBytes]
    have hhigh : (s.writeWord a16 (s.pair .HL)).readByte (a16 + 1) = s.h := by
      rw [State.readByte_writeWord_high, State.pair_HL, hiByte_joinBytes]
    exact ⟨hbs, _, rfl, hlow, hhigh, by simp, exec_fallsThrough hbs rfl rfl rfl rfl⟩

theorem exec_xchg_swaps (s : State) :
    ∃ t, exec .xchg s = .next t ∧ t.h = s.d ∧ t.d = s.h ∧ t.l = s.e ∧ t.e = s.l ∧ t.flags = s.flags :=
  ⟨_, rfl, by simp [State.pair_DE], by simp [State.pair_HL], by simp [State.pair_DE], by simp [State.pair_HL],
    by simp⟩

/-- Settles O15: two exchanges restore the four registers, and neither touches `A`, `B` and `C`. -/
theorem xchgSwapsHLAndDE : Obligations.XchgSwapsHLAndDE := by
  unfold Obligations.XchgSwapsHLAndDE
  intro s
  have hbs : Encodes .xchg [0xEB] := encodes_of_encode_eq rfl rfl
  obtain ⟨t, ht, hh, hd, hl, he, hflags⟩ := exec_xchg_swaps s
  obtain ⟨u, hu, hh', hd', hl', he', -⟩ := exec_xchg_swaps t
  refine ⟨hbs, t, ht, hh, hd, hl, he, hflags, exec_fallsThrough hbs ht rfl rfl rfl, u, hu, fun r => ?_⟩
  by_cases hr : r ∈ destRegs .xchg
  · cases r with
    | D => exact hd'.trans hh
    | E => exact he'.trans hl
    | H => exact hh'.trans hd
    | L => exact hl'.trans he
    | A | B | C => exact absurd hr (by decide)
  · rw [(exec_frame rfl hu).regs r hr, (exec_frame rfl ht).regs r hr]

end Sys2Proof.Machine

/-! PROOFS. Arithmetic (41_arithmetic.md, R90 to R115). What each computation returns is said of the computation, over
all operands and flags; each instruction then adds where its operands come from and where its result goes. -/

namespace Sys2Proof.Machine

open Sys2Proof.Claims

/-! ### Zero, sign and parity (R14, R90) -/

/-- The rule counts the 1 bits by filtering the bit positions, the model by adding the bits. -/
theorem length_filter_getLsbD (v : Byte) : ((List.range 8).filter fun k => v.getLsbD k).length = bitCount v := by
  have hbit (k : Nat) : List.countP (fun k => v.getLsbD k) [k] = (v.getLsbD k).toNat := by
    rw [List.countP_singleton]
    cases v.getLsbD k <;> rfl
  rw [← List.countP_eq_length_filter]
  simp only [List.range_succ, List.range_zero, List.countP_append, List.countP_nil, hbit]
  simp [bitCount]

/-- Flags that take the three computed values of `v` are those of `v`. -/
theorem zspOf_of_eq {f : Flags} {v : Byte} (hz : f.z = (v == 0)) (hs : f.s = v[7]) (hp : f.p = parityEven v) :
    ZspOf f v where
  zero := by rw [hz, beq_iff_eq]
  sign := by
    have hmsb : v[7] = v.msb := (BitVec.msb_eq_getLsbD_last v).symm
    rw [hs, hmsb, BitVec.msb_eq_decide, decide_eq_true_iff]
  parity := by rw [hp, parityEven, beq_iff_eq, length_filter_getLsbD]

/-- An operation on the accumulator falls through, and its value goes to `A` alone. -/
theorem State.setAlu_fallsThrough (s : State) (x : Alu) (bs : List Byte) :
    FallsThrough s ((s.setAlu x).advance bs.length) bs [.A] [] where
  regs r hr := by
    have hne : r ≠ .A := by simpa using hr
    simp [hne]
  mem a _ := by simp
  inte := by simp
  halted := by simp
  unimpl := by simp
  stub := by simp
  params := by simp
  env := by simp
  pc := by simp
  sp := by simp

/-! ### Add and subtract (R91 to R104) -/

theorem encodes_of_addForm {s : State} {i : Instr} {bs : List Byte} {op : Byte} {cin : Bool}
    (h : AddForm s i bs op cin) : Encodes i bs := by
  cases h with
  | addR r | adcR r => exact encodes_opXYZ rfl rfl (by simp)
  | addM | adcM | adi d8 | aci d8 => exact encodes_of_encode_eq rfl rfl

/-- The forms differ in their second operand, their incoming carry and their length alone. -/
theorem exec_of_addForm {s : State} {i : Instr} {bs : List Byte} {op : Byte} {cin : Bool}
    (h : AddForm s i bs op cin) : exec i s = .next ((s.setAlu (addCore s.a op cin)).advance bs.length) := by
  cases h <;> rfl

theorem addCore_zspOf (a op : Byte) (cin : Bool) : ZspOf (addCore a op cin).flags (addCore a op cin).value :=
  zspOf_of_eq rfl rfl rfl

/-- Settles O17: every form is `addCore` on its operand and incoming carry, and `addCore` keeps the exact sum. -/
theorem addWritesTheSumAndAllFiveFlags : Obligations.AddWritesTheSumAndAllFiveFlags := by
  unfold Obligations.AddWritesTheSumAndAllFiveFlags
  intro s i bs op cin h
  exact ⟨encodes_of_addForm h, _, exec_of_addForm h, BitVec.toNat_ofNat _ 8, decide_eq_true_iff, decide_eq_true_iff,
    addCore_zspOf s.a op cin, s.setAlu_fallsThrough _ bs⟩

theorem encodes_of_subForm {s : State} {i : Instr} {bs : List Byte} {op : Byte} {bin : Bool}
    (h : SubForm s i bs op bin) : Encodes i bs := by
  cases h with
  | subR r | sbbR r => exact encodes_opXYZ rfl rfl (by simp)
  | subM | sbbM | sui d8 | sbi d8 => exact encodes_of_encode_eq rfl rfl

theorem exec_of_subForm {s : State} {i : Instr} {bs : List Byte} {op : Byte} {bin : Bool}
    (h : SubForm s i bs op bin) : exec i s = .next ((s.setAlu (subCore s.a op bin)).advance bs.length) := by
  cases h <;> rfl

/-- The sum `a + ~op + (1 - bin)` is `a - op - bin` plus 256, so their values modulo 256 agree (R92). -/
theorem toNat_subCore_value (a op : Byte) (bin : Bool) :
    ((subCore a op bin).value.toNat : Int) = ((a.toNat : Int) - op.toNat - bin.toNat) % 256 := by
  have hop := op.isLt
  have hbin := bin.toNat_le
  simp only [subCore, BitVec.toNat_ofNat, BitVec.toNat_not]
  omega

/-- No carry out of bit 7 of that sum is a borrow (R92, D3). -/
theorem subCore_cy (a op : Byte) (bin : Bool) :
    (subCore a op bin).flags.cy = true ↔ a.toNat < op.toNat + bin.toNat := by
  have hop := op.isLt
  have hbin := bin.toNat_le
  simp only [subCore, BitVec.toNat_not, Bool.not_eq_true', decide_eq_false_iff_not]
  omega

theorem subCore_ac (a op : Byte) (bin : Bool) :
    (subCore a op bin).flags.ac = true ↔ a.toNat % 16 + (255 - op.toNat) % 16 + (1 - bin.toNat) > 0xF := by
  simp only [subCore, lowNibble, BitVec.toNat_not, decide_eq_true_iff]

theorem subCore_zspOf (a op : Byte) (bin : Bool) : ZspOf (subCore a op bin).flags (subCore a op bin).value :=
  zspOf_of_eq rfl rfl rfl

/-- Settles O18: every form is `subCore` on its operand and incoming borrow. -/
theorem subWritesTheDifferenceAndAllFiveFlags : Obligations.SubWritesTheDifferenceAndAllFiveFlags := by
  unfold Obligations.SubWritesTheDifferenceAndAllFiveFlags
  intro s i bs op bin h
  exact ⟨encodes_of_subForm h, _, exec_of_subForm h, toNat_subCore_value s.a op bin, subCore_cy s.a op bin,
    subCore_ac s.a op bin, subCore_zspOf s.a op bin, s.setAlu_fallsThrough _ bs⟩

/-! ### Increment and decrement (R108 to R111) -/

/-- `x` is what INR and DCR return for the byte `v` under the flags `f`: `v + k` modulo 256, AC by the condition
`ac` on `v`, CY kept. -/
structure Counts (f : Flags) (v : Byte) (k : Int) (ac : Byte → Prop) (x : Alu) : Prop where
  value : (x.value.toNat : Int) = (v.toNat + k) % 256
  ac : x.flags.ac = true ↔ ac v
  zsp : ZspOf x.flags x.value
  cy : x.flags.cy = f.cy

theorem incCore_counts (f : Flags) (v : Byte) : Counts f v 1 (fun v => v.toNat % 16 = 15) (incCore f v) where
  value := by simp [incCore]
  ac := beq_iff_eq
  zsp := zspOf_of_eq rfl rfl rfl
  cy := rfl

theorem decCore_counts (f : Flags) (v : Byte) : Counts f v (-1) (fun v => v.toNat % 16 ≠ 0) (decCore f v) where
  value := by
    have hvalue : (v - 1).toNat = (255 + v.toNat) % 256 := BitVec.toNat_sub v 1
    rw [decCore, hvalue]
    omega
  ac := bne_iff_ne
  zsp := zspOf_of_eq rfl rfl rfl
  cy := rfl

theorem encodes_of_countRegForm {i : Instr} {op : Byte} {r : Reg} {k : Int} {ac : Byte → Prop}
    (h : CountRegForm i op r k ac) : Encodes i [op] := by
  cases h with
  | inr | dcr => exact encodes_opXYZ rfl rfl (by simp; omega)

/-- INR and DCR on a register: the counted byte is read from it and written to it. -/
theorem exec_of_countRegForm {i : Instr} {op : Byte} {r : Reg} {k : Int} {ac : Byte → Prop}
    (h : CountRegForm i op r k ac) (s : State) : ∃ x, Counts s.flags (s.reg r) k ac x ∧
      exec i s = .next (((s.setReg r x.value).setFlags x.flags).advance 1) ∧
      FallsThrough s (((s.setReg r x.value).setFlags x.flags).advance 1) [op] [r] [] := by
  have hbs := encodes_of_countRegForm h
  cases h with
  | inr => exact ⟨_, incCore_counts _ _, rfl, exec_fallsThrough hbs rfl rfl rfl rfl⟩
  | dcr => exact ⟨_, decCore_counts _ _, rfl, exec_fallsThrough hbs rfl rfl rfl rfl⟩

theorem encodes_of_countMemForm {i : Instr} {op : Byte} {k : Int} {ac : Byte → Prop}
    (h : CountMemForm i op k ac) : Encodes i [op] := by
  cases h with
  | inr | dcr => exact encodes_of_encode_eq rfl rfl

/-- INR and DCR on memory: the counted byte is read and written at `H:L`. -/
theorem exec_of_countMemForm {i : Instr} {op : Byte} {k : Int} {ac : Byte → Prop}
    (h : CountMemForm i op k ac) (s : State) : ∃ x, Counts s.flags (s.readByte (s.pair .HL)) k ac x ∧
      exec i s = .next (((s.writeM x.value).setFlags x.flags).advance 1) ∧
      FallsThrough s (((s.writeM x.value).setFlags x.flags).advance 1) [op] [] [s.pair .HL] := by
  have hbs := encodes_of_countMemForm h
  cases h with
  | inr => exact ⟨_, incCore_counts _ _, rfl, exec_fallsThrough hbs rfl rfl rfl rfl⟩
  | dcr => exact ⟨_, decCore_counts _ _, rfl, exec_fallsThrough hbs rfl rfl rfl rfl⟩

/-- Settles O19: a register and the byte at `H:L` differ only in where the counted byte is read and written. -/
theorem inrAndDcrCountAByte : Obligations.InrAndDcrCountAByte := by
  unfold Obligations.InrAndDcrCountAByte
  refine ⟨fun s i op r k ac h => ?_, fun s i op k ac h => ?_⟩
  · obtain ⟨x, ⟨hvalue, hac, hzsp, hcy⟩, hexec, hfalls⟩ := exec_of_countRegForm h s
    have hread : (((s.setReg r x.value).setFlags x.flags).advance 1).reg r = x.value := by simp
    refine ⟨encodes_of_countRegForm h, _, hexec, ?_⟩
    rw [hread]
    exact ⟨hvalue, hac, hzsp, hcy, hfalls⟩
  · obtain ⟨x, ⟨hvalue, hac, hzsp, hcy⟩, hexec, hfalls⟩ := exec_of_countMemForm h s
    have hread : (((s.writeM x.value).setFlags x.flags).advance 1).readByte (s.pair .HL) = x.value := by simp
    refine ⟨encodes_of_countMemForm h, _, hexec, ?_⟩
    rw [hread]
    exact ⟨hvalue, hac, hzsp, hcy, hfalls⟩

/-! ### Sixteen-bit arithmetic (R112 to R114) -/

/-- Settles O20: the pair reads back the counted Word, and only the fourth pair is `sp`. -/
theorem inxAndDcxCountAPair : Obligations.InxAndDcxCountAPair := by
  unfold Obligations.InxAndDcxCountAPair
  intro s rp
  refine ⟨⟨encodes_opXPQZ rfl rfl (by simp; omega), ?_⟩, ⟨encodes_opXPQZ rfl rfl (by simp; omega), ?_⟩⟩
  · exact ⟨_, rfl, by simp, by simp, by simp, by simp +contextual, exec_frame (i := .inx rp) rfl rfl⟩
  · exact ⟨_, rfl, by simp [Nat.add_comm], by simp, by simp, by simp +contextual, exec_frame (i := .dcx rp) rfl rfl⟩

/-- Settles O21: the sum of two Words wraps at 65536, and `Flags.dad` keeps the exact one for CY. -/
theorem dadAddsAPairToHL : Obligations.DadAddsAPairToHL := by
  unfold Obligations.DadAddsAPairToHL
  intro s rp
  have hbs : Encodes (.dad rp) [opc (0x09 + 16 * pairCode rp)] := encodes_opXPQZ rfl rfl (by simp; omega)
  exact ⟨hbs, _, rfl, by simp, decide_eq_true_iff, rfl, rfl, rfl, rfl, exec_fallsThrough hbs rfl rfl rfl rfl⟩

/-! ### Decimal adjust (R115) -/

/-- The sum after stage 1, to 9 bits (R115, D4). -/
def daaStage1 (f : Flags) (a : Byte) : Nat :=
  if a.toNat % 16 > 9 ∨ f.ac = true then a.toNat + 6 else a.toNat

/-- The sum after stage 2, before it is cut to a Byte. -/
def daaStage2 (f : Flags) (a : Byte) : Nat :=
  if daaStage1 f a / 16 > 9 ∨ f.cy = true then daaStage1 f a + 0x60 else daaStage1 f a

theorem toNat_daaCore_value (f : Flags) (a : Byte) : (daaCore f a).value.toNat = daaStage2 f a % 256 := by
  simp [daaCore, daaStage2, daaStage1, lowNibble]

theorem daaCore_ac (f : Flags) (a : Byte) : (daaCore f a).flags.ac =
    if a.toNat % 16 > 9 ∨ f.ac = true then decide (a.toNat % 16 + 6 > 0xF) else f.ac := by
  simp [daaCore, lowNibble]

theorem daaCore_cy (f : Flags) (a : Byte) :
    (daaCore f a).flags.cy = true ↔ daaStage1 f a / 16 > 9 ∨ f.cy = true := by
  simp [daaCore, daaStage1, lowNibble]

theorem daaCore_zspOf (f : Flags) (a : Byte) : ZspOf (daaCore f a).flags (daaCore f a).value :=
  zspOf_of_eq rfl rfl rfl

/-- Adding 6 carries into the high nibble only from a low nibble above 9, so stage 2 can be decided from `A` as it
was: the single-correction form (R115). -/
theorem daaStage1_high_iff (f : Flags) (a : Byte) :
    daaStage1 f a / 16 > 9 ↔ a.toNat / 16 > 9 ∨ (a.toNat / 16 ≥ 9 ∧ a.toNat % 16 > 9) := by
  unfold daaStage1
  split <;> omega

/-- CY after DAA is stage 2's condition, said of `A` as it was. -/
theorem daaStage2_runs_iff (f : Flags) (a : Byte) : daaStage1 f a / 16 > 9 ∨ f.cy = true ↔
    a.toNat / 16 > 9 ∨ f.cy = true ∨ (a.toNat / 16 ≥ 9 ∧ a.toNat % 16 > 9) := by
  rw [daaStage1_high_iff, or_right_comm, or_assoc]

theorem daaStage2_eq_single (f : Flags) (a : Byte) : daaStage2 f a = a.toNat +
    (if a.toNat % 16 > 9 ∨ f.ac = true then 0x06 else 0) +
    (if a.toNat / 16 > 9 ∨ f.cy = true ∨ (a.toNat / 16 ≥ 9 ∧ a.toNat % 16 > 9) then 0x60 else 0) := by
  rw [daaStage2, if_congr (daaStage2_runs_iff f a) rfl rfl, daaStage1]
  split_ifs <;> rfl

/-- A stage 1 that does not run adds nothing, and then AC was clear. -/
theorem daaCore_ac_single (f : Flags) (a : Byte) : (daaCore f a).flags.ac = true ↔
    a.toNat % 16 + (if a.toNat % 16 > 9 ∨ f.ac = true then 0x06 else 0) > 0xF := by
  rw [daaCore_ac]
  split
  next => exact decide_eq_true_iff
  next h =>
    obtain ⟨hlow, hac⟩ := not_or.1 h
    exact iff_of_false hac (by omega)

/-- Settles O22: the two sums are those of the stages, and the single correction adds the same. -/
theorem daaIsTheTwoStageFixup : Obligations.DaaIsTheTwoStageFixup := by
  unfold Obligations.DaaIsTheTwoStageFixup
  intro s
  refine ⟨encodes_of_encode_eq rfl rfl, _, rfl, daaStage1 s.flags s.a, daaStage2 s.flags s.a, fun h => ?_, fun h => ?_,
    fun h => ?_, fun h => ?_, toNat_daaCore_value s.flags s.a, daaCore_zspOf s.flags s.a,
    s.setAlu_fallsThrough _ [0x27], ?_, ?_, daaCore_ac_single s.flags s.a⟩
  · exact ⟨if_pos h, by simp [daaCore_ac, if_pos h]⟩
  · exact ⟨if_neg h, (daaCore_ac s.flags s.a).trans (if_neg h)⟩
  · exact ⟨if_pos h, (daaCore_cy s.flags s.a).2 h⟩
  · exact ⟨if_neg h, Bool.eq_iff_iff.2 ((daaCore_cy s.flags s.a).trans (or_iff_right (not_or.1 h).1))⟩
  · exact (toNat_daaCore_value s.flags s.a).trans (by rw [daaStage2_eq_single])
  · exact (daaCore_cy s.flags s.a).trans (daaStage2_runs_iff s.flags s.a)

/-! ### Packed decimal addition (R98, R115) -/

theorem toNat_bcd {n : Nat} (h : n < 100) : (bcd n).toNat = n / 10 * 16 + n % 10 := by
  rw [bcd, BitVec.toNat_ofNat, Nat.mod_eq_of_lt (by omega)]

/-! Two packed-decimal bytes and a carry add up to `16 * tens + ones`, where the numbers add up to
`10 * tens + ones`; `x` is that sum cut to a Byte. -/

section

variable {tens ones x : Nat}

/-- DAA corrects the low nibble exactly when the ones carry. -/
theorem packed_low_iff (hones : ones ≤ 19) (hx : x = (16 * tens + ones) % 256) :
    x % 16 > 9 ∨ ones > 15 ↔ 10 ≤ ones := by
  omega

/-- DAA corrects the high nibble exactly when the number needs a third digit. -/
theorem packed_high_iff (htens : tens ≤ 18) (hones : ones ≤ 19) (hx : x = (16 * tens + ones) % 256) :
    x / 16 > 9 ∨ 16 * tens + ones > 0xFF ∨ (x / 16 ≥ 9 ∧ x % 16 > 9) ↔ 100 ≤ 10 * tens + ones := by
  omega

/-- Each correction makes up the difference between a carry at 10 and one at 16; what is left over is a multiple of
256. -/
theorem packed_fixup (htens : tens ≤ 18) (hones : ones ≤ 19) (hx : x = (16 * tens + ones) % 256) :
    (x + (if 10 ≤ ones then 0x06 else 0) + (if 100 ≤ 10 * tens + ones then 0x60 else 0)) % 256 =
      (10 * tens + ones) % 100 / 10 * 16 + (10 * tens + ones) % 100 % 10 := by
  have hexact : 16 * tens + ones + (if 10 ≤ ones then 0x06 else 0) + (if 100 ≤ 10 * tens + ones then 0x60 else 0) =
      (10 * tens + ones) / 100 * 256 + ((10 * tens + ones) % 100 / 10 * 16 + (10 * tens + ones) % 100 % 10) := by
    split_ifs <;> omega
  omega

end

/-- Settles O23: ACI leaves the sum of the two bytes, CY and AC of its nibbles, and DAA turns it into the packed sum. -/
theorem packedDecimalAdditionWithCarry : Obligations.PackedDecimalAdditionWithCarry := by
  unfold Obligations.PackedDecimalAdditionWithCarry
  intro s m n hm hn ha
  obtain ⟨-, t, ht, hvalue, hcy, hac, -, -⟩ := addWritesTheSumAndAllFiveFlags s _ _ _ _ (.aci (bcd n))
  obtain ⟨-, u, hu, -, -, -, -, -, -, -, -, -, hsum, hcarry, -⟩ := daaIsTheTwoStageFixup t
  rw [ha, toNat_bcd hm, toNat_bcd hn] at hvalue hcy hac
  have hc := s.flags.cy.toNat_le
  obtain ⟨tens, htens⟩ : ∃ tens, tens = m / 10 + n / 10 := ⟨_, rfl⟩
  obtain ⟨ones, hones⟩ : ∃ ones, ones = m % 10 + n % 10 + s.flags.cy.toNat := ⟨_, rfl⟩
  have htens_le : tens ≤ 18 := by omega
  have hones_le : ones ≤ 19 := by omega
  have hnumber : m + n + s.flags.cy.toNat = 10 * tens + ones := by omega
  have hbytes : m / 10 * 16 + m % 10 + (n / 10 * 16 + n % 10) + s.flags.cy.toNat = 16 * tens + ones := by omega
  have hnibbles : (m / 10 * 16 + m % 10) % 16 + (n / 10 * 16 + n % 10) % 16 + s.flags.cy.toNat = ones := by omega
  rw [hbytes] at hvalue hcy
  rw [hnibbles] at hac
  have hlow : t.a.toNat % 16 > 9 ∨ t.flags.ac = true ↔ 10 ≤ ones := by
    rw [hac]
    exact packed_low_iff hones_le hvalue
  have hhigh : t.a.toNat / 16 > 9 ∨ t.flags.cy = true ∨ (t.a.toNat / 16 ≥ 9 ∧ t.a.toNat % 16 > 9) ↔
      100 ≤ 10 * tens + ones := by
    rw [hcy]
    exact packed_high_iff htens_le hones_le hvalue
  rw [hnumber]
  refine ⟨t, u, ht, hu, BitVec.eq_of_toNat_eq ?_, hcarry.trans hhigh⟩
  rw [hsum, if_congr hlow rfl rfl, if_congr hhigh rfl rfl, toNat_bcd (Nat.mod_lt _ (by decide))]
  exact packed_fixup htens_le hones_le hvalue

end Sys2Proof.Machine

/-! PROOFS. Logical, compare, rotate and carry instructions (42_logical_rotate.md, R130 to R149). As in arithmetic: what
each computation returns is said of the computation, and each instruction adds its operands and its length. -/

namespace Sys2Proof.Machine

open Sys2Proof.Claims

/-! ### Logical operations (R130 to R139) -/

theorem encodes_of_logicForm {s : State} {i : Instr} {bs : List Byte} {op : Byte} {f : Bool → Bool → Bool}
    (h : LogicForm s i bs op f) : Encodes i bs := by
  cases h with
  | anaR r | xraR r | oraR r => exact encodes_opXYZ rfl rfl (by simp)
  | anaM | ani d8 | xraM | xri d8 | oraM | ori d8 => exact encodes_of_encode_eq rfl rfl

/-- Every form is `logicCore` on the Byte that `f` makes bit by bit. -/
theorem exec_of_logicForm {s : State} {i : Instr} {bs : List Byte} {op : Byte} {f : Bool → Bool → Bool}
    (h : LogicForm s i bs op f) : ∃ v : Byte, (∀ k, v.getLsbD k = f (s.a.getLsbD k) (op.getLsbD k)) ∧
      exec i s = .next ((s.setAlu (logicCore s.flags v)).advance bs.length) := by
  cases h with
  | anaR r | anaM | ani d8 => exact ⟨_, fun _ => BitVec.getLsbD_and, rfl⟩
  | xraR r | xraM | xri d8 => exact ⟨_, fun _ => BitVec.getLsbD_xor, rfl⟩
  | oraR r | oraM | ori d8 => exact ⟨_, fun _ => BitVec.getLsbD_or, rfl⟩

theorem logicCore_zspOf (f : Flags) (v : Byte) : ZspOf (logicCore f v).flags v :=
  zspOf_of_eq rfl rfl rfl

/-- Settles O24: `logicCore` clears CY and keeps AC whatever the Byte is. -/
theorem logicWritesTheBitwiseResult : Obligations.LogicWritesTheBitwiseResult := by
  unfold Obligations.LogicWritesTheBitwiseResult
  intro s i bs op f h
  obtain ⟨v, hbits, hexec⟩ := exec_of_logicForm h
  exact ⟨encodes_of_logicForm h, _, hexec, fun k _ => hbits k, rfl, rfl, logicCore_zspOf s.flags v,
    s.setAlu_fallsThrough _ bs⟩

/-! ### Compare (R140 to R142) -/

theorem encodes_of_compareForm {s : State} {i : Instr} {bs : List Byte} {op : Byte}
    (h : CompareForm s i bs op) : Encodes i bs := by
  cases h with
  | cmpR r => exact encodes_opXYZ rfl rfl (by simp)
  | cmpM | cpi d8 => exact encodes_of_encode_eq rfl rfl

theorem exec_of_compareForm {s : State} {i : Instr} {bs : List Byte} {op : Byte}
    (h : CompareForm s i bs op) : exec i s = .next ((s.setFlags (compareFlags s.a op)).advance bs.length) := by
  cases h <;> rfl

theorem fallsThrough_of_compareForm {s t : State} {i : Instr} {bs : List Byte} {op : Byte}
    (h : CompareForm s i bs op) (hexec : exec i s = .next t) : FallsThrough s t bs [] [] := by
  have hbs := encodes_of_compareForm h
  cases h with
  | cmpR | cmpM | cpi => exact exec_fallsThrough hbs hexec rfl rfl rfl

/-- Z is written by direct equality (R140), which is a difference of 0; S and P are those of the subtraction. -/
theorem compareFlags_zspOf (a op : Byte) : ZspOf (compareFlags a op) (BitVec.ofNat 8 (a.toNat + 256 - op.toNat)) := by
  have hdiff : (subCore a op false).value = BitVec.ofNat 8 (a.toNat + 256 - op.toNat) := by
    have hsum : ((subCore a op false).value.toNat : Int) = ((a.toNat : Int) - op.toNat) % 256 := by
      simpa using toNat_subCore_value a op false
    bv_omega
  have hsub := subCore_zspOf a op false
  rw [hdiff] at hsub
  refine ⟨?_, hsub.sign, hsub.parity⟩
  rw [compareFlags, beq_iff_eq]
  bv_omega

/-- Settles O25: a compare is the subtraction without a borrow, and its result goes nowhere. -/
theorem compareWritesOnlyFlags : Obligations.CompareWritesOnlyFlags := by
  unfold Obligations.CompareWritesOnlyFlags
  intro s i bs op h
  have hexec := exec_of_compareForm h
  exact ⟨encodes_of_compareForm h, _, hexec, beq_iff_eq, subCore_cy s.a op false, subCore_ac s.a op false,
    compareFlags_zspOf s.a op, fallsThrough_of_compareForm h hexec⟩

/-! ### Rotates (R143 to R146): a shift by one place with a bit entering at the free end -/

theorem getLsbD_bitAt_self (b : Bool) {k : Nat} (hk : k < 8) : (bitAt b k).getLsbD k = b := by
  cases b <;> simp [bitAt, hk]

theorem getLsbD_bitAt_of_ne (b : Bool) {i k : Nat} (h : k ≠ i) : (bitAt b i).getLsbD k = false := by
  have hplace (hik : i ≤ k) : k - i ≠ 0 := by omega
  cases b <;> simp +contextual [bitAt, hplace]

theorem getLsbD_shiftLeft_or_bitAt_zero (a : Byte) (b : Bool) : ((a <<< 1) ||| bitAt b 0).getLsbD 0 = b := by
  rw [BitVec.getLsbD_or, getLsbD_bitAt_self b (by decide)]
  simp

theorem getLsbD_shiftLeft_or_bitAt_succ (a : Byte) (b : Bool) {k : Nat} (hk : k < 7) :
    ((a <<< 1) ||| bitAt b 0).getLsbD (k + 1) = a.getLsbD k := by
  have hlt : k + 1 < 8 := by omega
  rw [BitVec.getLsbD_or, getLsbD_bitAt_of_ne b k.succ_ne_zero, BitVec.getLsbD_shiftLeft]
  simp [hlt]

theorem getLsbD_ushiftRight_or_bitAt_last (a : Byte) (b : Bool) : ((a >>> 1) ||| bitAt b 7).getLsbD 7 = b := by
  rw [BitVec.getLsbD_or, getLsbD_bitAt_self b (by decide)]
  simp

theorem getLsbD_ushiftRight_or_bitAt_of_lt (a : Byte) (b : Bool) {k : Nat} (hk : k < 7) :
    ((a >>> 1) ||| bitAt b 7).getLsbD k = a.getLsbD (k + 1) := by
  rw [BitVec.getLsbD_or, getLsbD_bitAt_of_ne b hk.ne, BitVec.getLsbD_ushiftRight, Bool.or_false, Nat.add_comm]

theorem getLsbD_rotateLeft_value (f : Flags) (a : Byte) {k : Nat} (hk : k < 8) :
    (rotateLeft f a).value.getLsbD k = a.getLsbD ((k + 7) % 8) := by
  cases k with
  | zero => exact getLsbD_shiftLeft_or_bitAt_zero a a[7]
  | succ k =>
    have hfrom : (k + 1 + 7) % 8 = k := by omega
    rw [hfrom]
    exact getLsbD_shiftLeft_or_bitAt_succ a a[7] (by omega)

theorem getLsbD_rotateRight_value (f : Flags) (a : Byte) {k : Nat} (hk : k < 8) :
    (rotateRight f a).value.getLsbD k = a.getLsbD ((k + 1) % 8) := by
  obtain rfl | hlt : k = 7 ∨ k < 7 := by omega
  · exact getLsbD_ushiftRight_or_bitAt_last a a[0]
  · rw [Nat.mod_eq_of_lt (by omega)]
    exact getLsbD_ushiftRight_or_bitAt_of_lt a a[0] hlt

/-- Settles O26: in RLC and RRC the entering bit is the one that leaves, in RAL and RAR it is CY. -/
theorem rotatesMoveEveryBit : Obligations.RotatesMoveEveryBit := by
  unfold Obligations.RotatesMoveEveryBit
  intro s
  refine ⟨⟨encodes_of_encode_eq rfl rfl, _, rfl, ?_⟩, ⟨encodes_of_encode_eq rfl rfl, _, rfl, ?_⟩,
    ⟨encodes_of_encode_eq rfl rfl, _, rfl, ?_⟩, ⟨encodes_of_encode_eq rfl rfl, _, rfl, ?_⟩⟩
  · exact ⟨fun k hk => getLsbD_rotateLeft_value s.flags s.a hk, rfl, s.setAlu_fallsThrough _ [0x07]⟩
  · exact ⟨fun k hk => getLsbD_rotateRight_value s.flags s.a hk, rfl, s.setAlu_fallsThrough _ [0x0F]⟩
  · exact ⟨fun k hk => getLsbD_shiftLeft_or_bitAt_succ s.a s.flags.cy hk,
      getLsbD_shiftLeft_or_bitAt_zero s.a s.flags.cy, rfl, s.setAlu_fallsThrough _ [0x17]⟩
  · exact ⟨fun k hk => getLsbD_ushiftRight_or_bitAt_of_lt s.a s.flags.cy hk,
      getLsbD_ushiftRight_or_bitAt_last s.a s.flags.cy, rfl, s.setAlu_fallsThrough _ [0x1F]⟩

/-! ### Complement and carry (R147 to R149) -/

/-- Settles O27: the complement of a Byte is 255 less it, and STC and CMC write CY alone. -/
theorem complementAndCarryInstructions : Obligations.ComplementAndCarryInstructions := by
  unfold Obligations.ComplementAndCarryInstructions
  intro s
  have hcma : Encodes .cma [0x2F] := encodes_of_encode_eq rfl rfl
  have hstc : Encodes .stc [0x37] := encodes_of_encode_eq rfl rfl
  have hcmc : Encodes .cmc [0x3F] := encodes_of_encode_eq rfl rfl
  exact ⟨⟨hcma, _, rfl, BitVec.toNat_not, rfl, exec_fallsThrough hcma rfl rfl rfl rfl⟩,
    ⟨hstc, _, rfl, rfl, exec_fallsThrough hstc rfl rfl rfl rfl⟩,
    ⟨hcmc, _, rfl, rfl, exec_fallsThrough hcmc rfl rfl rfl rfl⟩⟩

end Sys2Proof.Machine

/-! PROOFS. Control transfer (43_control_flow.md, R160 to R189). The jumps, the calls and the returns are three
families: within each the members differ in their opcode and in the condition `taken` decides (R160), so a statement is
proved for the taken and for the untaken transfer, once for the family. -/

namespace Sys2Proof.Machine

open Sys2Proof.Claims

/-! ### Jumps (R161 to R169) -/

section

variable {s : State} {i : Instr} {op : Byte} {w : Word} {cond : Prop} (h : JumpForm s.flags i op w cond)

include h

theorem encodes_of_jumpForm : Encodes i [op, low w, high w] := by
  cases h <;> exact encodes_encodeF3 rfl rfl

theorem taken_iff_of_jumpForm : taken i s.flags = true ↔ cond := by
  cases h <;> simp [taken, condOf]

theorem exec_of_jumpForm : exec i s = .next (if taken i s.flags then s.goto w else s.advance 3) := by
  rw [taken_eq_satisfies]
  cases h <;> rfl

theorem frame_of_jumpForm {t : State} (hexec : exec i s = .next t) : Frame s t [] [] := by
  cases h <;> exact exec_frame rfl hexec

end

/-- Settles O28: a jump is `goto` its target when it is taken and an advance past its three bytes when it is not. -/
theorem jumpsGoToTheTargetWhenTheConditionHolds : Obligations.JumpsGoToTheTargetWhenTheConditionHolds := by
  unfold Obligations.JumpsGoToTheTargetWhenTheConditionHolds
  intro s i op w cond h
  have hexec := exec_of_jumpForm h
  refine ⟨encodes_of_jumpForm h, ?_⟩
  by_cases hcond : cond
  · rw [if_pos ((taken_iff_of_jumpForm h).2 hcond)] at hexec
    exact ⟨_, hexec, fun _ => rfl, absurd hcond, rfl, rfl, frame_of_jumpForm h hexec⟩
  · rw [if_neg (mt (taken_iff_of_jumpForm h).1 hcond)] at hexec
    exact ⟨_, hexec, fun hc => absurd hc hcond, fun _ => rfl, rfl, rfl, frame_of_jumpForm h hexec⟩

/-! ### Calls and restarts (R170 to R178, R188) -/

/-- `Push` leaves the high byte just below the old top of the stack (R38). -/
theorem State.readByte_push_high (s : State) (w : Word) : (s.push w).readByte (s.sp - 1) = high w := by
  have hne : s.sp - 1 ≠ s.sp - 2 := by bv_omega
  rw [State.readByte_push, if_neg hne, if_pos rfl, high_eq_hiByte]

/-- `Push` leaves the low byte at the new top of the stack (R38). -/
theorem State.readByte_push_low (s : State) (w : Word) : (s.push w).readByte (s.sp - 2) = low w := by
  rw [State.readByte_push, if_pos rfl, low_eq_loByte]

section

variable {s : State} {i : Instr} {op : Byte} {w : Word} {cond : Prop} (h : CallForm s.flags i op w cond)

include h

theorem encodes_of_callForm : Encodes i [op, low w, high w] := by
  cases h <;> exact encodes_encodeF3 rfl rfl

theorem taken_iff_of_callForm : taken i s.flags = true ↔ cond := by
  cases h <;> simp [taken, condOf]

theorem exec_of_callForm : exec i s = .next (if taken i s.flags then s.callTo w else s.advance 3) := by
  rw [taken_eq_satisfies]
  cases h <;> rfl

theorem frame_of_callForm {t : State} (hexec : exec i s = .next t) :
    Frame s t [] (if taken i s.flags then [s.sp - 1, s.sp - 2] else []) := by
  cases h <;> exact exec_frame rfl hexec

end

/-- Settles O29: a taken call pushes the address after its three bytes, an untaken one only advances past them. -/
theorem callsPushTheReturnAddress : Obligations.CallsPushTheReturnAddress := by
  unfold Obligations.CallsPushTheReturnAddress
  intro s i op w cond h
  have hexec := exec_of_callForm h
  have hframe := frame_of_callForm h hexec
  refine ⟨encodes_of_callForm h, _, hexec, ?_⟩
  by_cases hcond : cond
  · simp only [if_pos ((taken_iff_of_callForm h).2 hcond)] at hframe ⊢
    have hhigh := (s.readByte_callTo w _).trans (s.readByte_push_high (s.pc + 3))
    have hlow := (s.readByte_callTo w _).trans (s.readByte_push_low (s.pc + 3))
    exact ⟨s.callTo_flags w, fun _ => ⟨s.callTo_pc w, s.callTo_sp w, hhigh, hlow, hframe⟩, absurd hcond⟩
  · simp only [if_neg (mt (taken_iff_of_callForm h).1 hcond)] at hframe ⊢
    exact ⟨rfl, fun hc => absurd hc hcond, fun _ => ⟨rfl, rfl, hframe⟩⟩

theorem toNat_vectorAddress (n : BitVec 3) : (vectorAddress n).toNat = 8 * n.toNat := by
  rw [vectorAddress, BitVec.toNat_ofNat, Nat.mod_eq_of_lt (by omega)]

/-- Settles O31: RST enters the address its field names, with the address after its one byte pushed. -/
theorem rstCallsAFixedAddress : Obligations.RstCallsAFixedAddress := by
  unfold Obligations.RstCallsAFixedAddress
  intro s n
  have hhigh := (s.readByte_enter _ (vectorAddress n) _).trans (s.readByte_push_high (s.pc + 1))
  have hlow := (s.readByte_enter _ (vectorAddress n) _).trans (s.readByte_push_low (s.pc + 1))
  exact ⟨encodes_opXYZ rfl rfl (by simp; omega), _, rfl, toNat_vectorAddress n, s.enter_sp _ _, hhigh, hlow,
    s.enter_flags _ _, exec_frame (i := .rst n) rfl rfl⟩

/-! ### Returns (R179 to R187) -/

section

variable {s : State} {i : Instr} {op : Byte} {cond : Prop} (h : ReturnForm s.flags i op cond)

include h

theorem encodes_of_returnForm : Encodes i [op] := by
  cases h <;> exact encodes_of_encode_eq rfl rfl

theorem taken_iff_of_returnForm : taken i s.flags = true ↔ cond := by
  cases h <;> simp [taken, condOf]

theorem exec_of_returnForm : exec i s = .next (if taken i s.flags then s.leave else s.advance 1) := by
  rw [taken_eq_satisfies]
  cases h <;> rfl

theorem frame_of_returnForm {t : State} (hexec : exec i s = .next t) : Frame s t [] [] := by
  cases h <;> exact exec_frame rfl hexec

end

/-- Settles O30: a taken return takes `pc` from the top of the stack, an untaken one only advances past its byte. -/
theorem returnsPopThePc : Obligations.ReturnsPopThePc := by
  unfold Obligations.ReturnsPopThePc
  intro s i op cond h
  have hexec := exec_of_returnForm h
  refine ⟨encodes_of_returnForm h, ?_⟩
  by_cases hcond : cond
  · rw [if_pos ((taken_iff_of_returnForm h).2 hcond)] at hexec
    exact ⟨_, hexec, rfl, frame_of_returnForm h hexec, fun _ => ⟨s.top_eq_word, rfl⟩, absurd hcond⟩
  · rw [if_neg (mt (taken_iff_of_returnForm h).1 hcond)] at hexec
    exact ⟨_, hexec, rfl, frame_of_returnForm h hexec, fun hc => absurd hc hcond, fun _ => ⟨rfl, rfl⟩⟩

/-! ### Transfers by `H:L` (R189, R216) -/

/-- Settles O32: both take the Word `H:L`, PCHL to `pc` and SPHL to `sp`. -/
theorem pchlAndSphlTakeHL : Obligations.PchlAndSphlTakeHL := by
  unfold Obligations.PchlAndSphlTakeHL
  intro s
  exact ⟨⟨encodes_of_encode_eq rfl rfl, _, rfl, s.pair_HL_eq_word, rfl, rfl, exec_frame (i := .pchl) rfl rfl⟩,
    ⟨encodes_of_encode_eq rfl rfl, _, rfl, s.pair_HL_eq_word, rfl, rfl, exec_frame (i := .sphl) rfl rfl⟩⟩

end Sys2Proof.Machine

/-! PROOFS. The stack and the machine-control instructions (44_stack_io_machine.md, R210 to R228). What a pair's two
registers hold is said once (R11), for the bytes PUSH stores and for the registers POP loads; an instruction that
writes one status bit is otherwise an advance past its byte. -/

namespace Sys2Proof.Machine

open Sys2Proof.Claims

/-! ### The stack (R210 to R215) -/

/-- The first register of a pair that the stack takes holds the high half of the pair (R11). -/
theorem State.map_reg_pairRegs_zero (s : State) {rp : RegPair} (h : rp.stackable = true) :
    (pairRegs rp)[0]?.map s.reg = some (hiByte (s.pair rp)) := by
  cases rp with
  | BC | DE | HL => exact congrArg some (hiByte_joinBytes _ _).symm
  | SP => exact absurd rfl (RegPair.ne_SP_of_stackable h)

/-- The second register of a pair that the stack takes holds the low half of the pair (R11). -/
theorem State.map_reg_pairRegs_one (s : State) {rp : RegPair} (h : rp.stackable = true) :
    (pairRegs rp)[1]?.map s.reg = some (loByte (s.pair rp)) := by
  cases rp with
  | BC | DE | HL => exact congrArg some (loByte_joinBytes _ _).symm
  | SP => exact absurd rfl (RegPair.ne_SP_of_stackable h)

theorem State.hiByte_top (s : State) : hiByte s.top = s.readByte (s.sp + 1) := hiByte_joinBytes _ _

theorem State.loByte_top (s : State) : loByte s.top = s.readByte s.sp := loByte_joinBytes _ _

/-- Settles O34: the stored bytes are the halves of the pushed Word, which for PUSH PSW is `A` over the PSW byte. -/
theorem pushStoresHighThenLow : Obligations.PushStoresHighThenLow := by
  unfold Obligations.PushStoresHighThenLow
  refine ⟨fun s rp hwf => ?_, fun s => ?_⟩
  · have hbs : Encodes (.push rp) [opc (0xC5 + 16 * pairCode rp)] := encodes_opXPQZ hwf rfl (by simp; omega)
    have hhigh := s.readByte_push_high (s.pair rp)
    have hlow := s.readByte_push_low (s.pair rp)
    rw [high_eq_hiByte] at hhigh
    rw [low_eq_loByte] at hlow
    exact ⟨hbs, _, rfl, (congrArg some hhigh).trans (s.map_reg_pairRegs_zero hwf).symm,
      (congrArg some hlow).trans (s.map_reg_pairRegs_one hwf).symm, rfl, rfl, rfl, exec_frame (i := .push rp) rfl rfl⟩
  · have ha := s.readByte_push_high (joinBytes s.a s.flags.toPsw)
    have hpsw := s.readByte_push_low (joinBytes s.a s.flags.toPsw)
    rw [high_eq_hiByte, hiByte_joinBytes] at ha
    rw [low_eq_loByte, loByte_joinBytes] at hpsw
    have hbits := s.flags.toPsw_bits
    rw [← hpsw] at hbits
    obtain ⟨h7, h6, h5, h4, h3, h2, h1, h0⟩ := hbits
    exact ⟨encodes_of_encode_eq rfl rfl, _, rfl, ha, h7, h6, h5, h4, h3, h2, h1, h0, rfl, rfl, rfl,
      exec_frame (i := .pushPsw) rfl rfl⟩

/-- Settles O35: the pair, or `A` and the flags, take the halves of the Word on top of the stack. -/
theorem popLoadsLowThenHigh : Obligations.PopLoadsLowThenHigh := by
  unfold Obligations.PopLoadsLowThenHigh
  refine ⟨fun s rp hwf => ?_, fun s => ?_⟩
  · have hbs : Encodes (.pop rp) [opc (0xC1 + 16 * pairCode rp)] := encodes_opXPQZ hwf rfl (by simp; omega)
    refine ⟨hbs, _, rfl, ?_, ?_, by simp [RegPair.ne_SP_of_stackable hwf], by simp, by simp,
      exec_frame (i := .pop rp) rfl rfl⟩
    · rw [State.map_reg_pairRegs_one _ hwf, State.pair_advance, State.pair_setPair_self, s.loByte_top]
    · rw [State.map_reg_pairRegs_zero _ hwf, State.pair_advance, State.pair_setPair_self, s.hiByte_top]
  · have hflags : Flags.ofPsw (loByte s.top) = Flags.ofPsw (s.readByte s.sp) := congrArg Flags.ofPsw s.loByte_top
    exact ⟨encodes_of_encode_eq rfl rfl, _, rfl, congrArg Flags.s hflags, congrArg Flags.z hflags,
      congrArg Flags.ac hflags, congrArg Flags.p hflags, congrArg Flags.cy hflags, s.hiByte_top, rfl, rfl,
      exec_frame (i := .popPsw) rfl rfl⟩

theorem exec_xthl_swaps (s : State) :
    ∃ t, exec .xthl s = .next t ∧ t.l = s.readByte s.sp ∧ t.h = s.readByte (s.sp + 1) ∧ t.readByte s.sp = s.l ∧
      t.readByte (s.sp + 1) = s.h ∧ t.flags = s.flags := by
  have hlow := s.readByte_writeWord_low s.sp (s.pair .HL)
  have hhigh := s.readByte_writeWord_high s.sp (s.pair .HL)
  rw [State.pair_HL, loByte_joinBytes] at hlow
  rw [State.pair_HL, hiByte_joinBytes] at hhigh
  exact ⟨_, rfl, loByte_joinBytes _ _, hiByte_joinBytes _ _, hlow, hhigh, rfl⟩

/-- Settles O37: `sp` is the same for the second exchange, so it restores the two registers and the two bytes. -/
theorem xthlSwapsHLWithTheTopOfStack : Obligations.XthlSwapsHLWithTheTopOfStack := by
  unfold Obligations.XthlSwapsHLWithTheTopOfStack
  intro s
  have hbs : Encodes .xthl [0xE3] := encodes_of_encode_eq rfl rfl
  obtain ⟨t, ht, hl, hh, hlow, hhigh, hflags⟩ := exec_xthl_swaps s
  obtain ⟨u, hu, hl', hh', hlow', hhigh', -⟩ := exec_xthl_swaps t
  have hfirst : FallsThrough s t [0xE3] [.H, .L] [s.sp, s.sp + 1] := exec_fallsThrough hbs ht rfl rfl rfl
  have hsecond : FallsThrough t u [0xE3] [.H, .L] [t.sp, t.sp + 1] := exec_fallsThrough hbs hu rfl rfl rfl
  rw [hfirst.sp] at hl' hh' hlow' hhigh' hsecond
  refine ⟨hbs, t, ht, hl, hh, hlow, hhigh, hflags, hfirst, u, hu, fun r => ?_, fun a => ?_⟩
  · by_cases hr : r ∈ [Reg.H, Reg.L]
    · obtain rfl | rfl : r = .H ∨ r = .L := by simpa using hr
      · exact hh'.trans hhigh
      · exact hl'.trans hlow
    · exact (hsecond.regs r hr).trans (hfirst.regs r hr)
  · by_cases ha : a ∈ [s.sp, s.sp + 1]
    · obtain rfl | rfl : a = s.sp ∨ a = s.sp + 1 := by simpa using ha
      · exact hlow'.trans hl
      · exact hhigh'.trans hh
    · exact (hsecond.mem a ha).trans (hfirst.mem a ha)

/-! ### Interrupt enable, halt, no-operation, opcodes without a handler (R222 to R228) -/

/-- Advancing past the bytes of an instruction is all that falling through asks. -/
theorem State.advance_fallsThrough (s : State) (bs : List Byte) : FallsThrough s (s.advance bs.length) bs [] [] where
  regs r _ := s.reg_advance _ r
  mem _ _ := rfl
  inte := rfl
  halted := rfl
  unimpl := rfl
  stub := rfl
  params := rfl
  env := rfl
  pc := rfl
  sp := rfl

/-- Settles O40: with INTE put back the next state is an advance past the one byte. -/
theorem eiAndDiWriteInte : Obligations.EiAndDiWriteInte := by
  unfold Obligations.EiAndDiWriteInte
  intro s
  exact ⟨⟨encodes_of_encode_eq rfl rfl, _, rfl, rfl, rfl, s.advance_fallsThrough [0xFB]⟩,
    ⟨encodes_of_encode_eq rfl rfl, _, rfl, rfl, rfl, s.advance_fallsThrough [0xF3]⟩⟩

/-- Settles O41: with HALTED put back the next state is an advance past the one byte. -/
theorem hltSetsHaltedAndGoesOn : Obligations.HltSetsHaltedAndGoesOn := by
  unfold Obligations.HltSetsHaltedAndGoesOn
  intro s
  exact ⟨encodes_of_encode_eq rfl rfl, _, rfl, rfl, rfl, s.advance_fallsThrough [0x76]⟩

/-- Settles O42: each is an advance by one; a synonym's opcode is its field `y` times 8. -/
theorem nopAndItsSynonymsOnlyAdvance : Obligations.NopAndItsSynonymsOnlyAdvance := by
  unfold Obligations.NopAndItsSynonymsOnlyAdvance
  exact ⟨fun s => ⟨encodes_of_encode_eq rfl rfl, rfl⟩, fun s y hwf => ⟨encodes_opXYZ hwf rfl (by simp), rfl⟩⟩

/-- Settles O43: the four opcodes are encodings, and the meaning is the report, whichever of them it is. -/
theorem unimplementedOpcodesOnlyReport : Obligations.UnimplementedOpcodesOnlyReport := by
  unfold Obligations.UnimplementedOpcodesOnlyReport
  intro s op
  exact ⟨encodes_of_encode_eq rfl rfl, encodes_of_encode_eq rfl rfl, encodes_of_encode_eq rfl rfl,
    encodes_of_encode_eq rfl rfl, rfl⟩

end Sys2Proof.Machine

/-! PROOFS. Exceptions and the run (60_exceptions.md, 70_reset_and_hazards.md): every move completes (R240), delivery of
an interrupt and the return from it (R243 to R247), launch (R257, R273) and the run convention (R256). -/

namespace Sys2Proof.Machine

open Sys2Proof.Claims

/-! ### No move is stuck (R240) -/

theorem exec_answers (i : Instr) (s : State) : ∃ t, exec i s = .next t :=
  (everyInstructionEndsAtTheRulesPc i s).imp fun _ h => h.1

/-- Settles O9: the engine's move executes some instruction and every instruction answers; the environment's move
always does. -/
theorem machineAlwaysMoves : Obligations.MachineAlwaysMoves := by
  unfold Obligations.MachineAlwaysMoves
  intro s
  unfold step
  rcases oneMove_cases s with ⟨-, h⟩ | ⟨ts, -, h⟩ | ⟨turn, ts, -, -, h⟩
  · exact h ▸ exec_answers _ _
  · exact h ▸ exec_answers _ _
  · exact ⟨_, h⟩

/-! ### Delivery of an interrupt and the return from it (R243, R247) -/

/-- `Push` stores at the two bytes below the old top of the stack and nowhere else (R38). -/
theorem State.readByte_push_of_not_mem (s : State) (w : Word) {a : Word} (h : a ∉ [s.sp - 1, s.sp - 2]) :
    (s.push w).readByte a = s.readByte a := by
  obtain ⟨hhigh, hlow⟩ : a ≠ s.sp - 1 ∧ a ≠ s.sp - 2 := by simpa using h
  rw [State.readByte_push, if_neg hlow, if_neg hhigh]

/-- With INTE put back, delivery stores the two bytes of the return address and keeps the rest (R243). -/
theorem State.deliverInterrupt_frame (s : State) (v : BitVec 3) :
    Frame s { s.deliverInterrupt v with inte := s.inte } [] [s.sp - 1, s.sp - 2] where
  regs r _ := (State.reg_congr (by simp) r).trans (s.reg_deliverInterrupt v r)
  mem _ ha := s.readByte_push_of_not_mem s.pc ha
  inte := rfl
  halted := s.deliverInterrupt_halted v
  unimpl := s.deliverInterrupt_unimpl v
  stub := s.deliverInterrupt_stub v
  params := s.deliverInterrupt_params v
  env := s.deliverInterrupt_env v

/-- Settles O44: delivery is a push of `pc`, a transfer to the vector's address and a write of INTE. -/
theorem deliverInterruptPushesPcAndVectors : Obligations.DeliverInterruptPushesPcAndVectors := by
  unfold Obligations.DeliverInterruptPushesPcAndVectors
  intro s v
  have hhigh := (s.readByte_deliverInterrupt v _).trans (s.readByte_push_high s.pc)
  have hlow := (s.readByte_deliverInterrupt v _).trans (s.readByte_push_low s.pc)
  exact ⟨_, rfl, toNat_vectorAddress v, s.deliverInterrupt_sp v, hhigh, hlow, fun h => by simp [h],
    fun h => by simp [h], s.deliverInterrupt_flags v, s.deliverInterrupt_frame v⟩

/-- The return address delivery leaves on top of the stack is the interrupted `pc` itself (R243). -/
@[simp] theorem State.top_deliverInterrupt (s : State) (v : BitVec 3) : (s.deliverInterrupt v).top = s.pc :=
  s.top_push s.pc

/-- Settles O46: RET pops the interrupted `pc`; it writes neither a status bit nor a register. -/
theorem interruptThenRetResumes : Obligations.InterruptThenRetResumes := by
  unfold Obligations.InterruptThenRetResumes
  intro s v hinte
  rw [State.request_enabled s v hinte]
  have hpc : (s.deliverInterrupt v).leave.pc = s.pc := by rw [State.leave_pc, State.top_deliverInterrupt]
  have hsp : (s.deliverInterrupt v).leave.sp = s.sp := by
    rw [State.leave_sp, State.deliverInterrupt_sp, BitVec.sub_add_cancel]
  exact ⟨_, rfl, hpc, hsp, by simp, by simp, by simp, by simp, by simp, by simp [hinte]⟩

/-! ### Launch (R257, R273) -/

/-- The images are placed exactly when each of them fits. -/
theorem Memory.exists_loadAll_eq_some_iff (m : Memory) (images : List (Nat × List Byte)) :
    (∃ n, Memory.loadAll m images = some n) ↔ ∀ x ∈ images, x.1 + x.2.length ≤ 65536 := by
  induction images generalizing m with
  | nil => simp [Memory.loadAll]
  | cons x rest ih =>
    obtain ⟨o, image⟩ := x
    rw [Memory.loadAll, List.forall_mem_cons]
    split
    next hfits => rw [ih, and_iff_right hfits]
    next hfits => simp [hfits]

/-- Placing a list of images is placing its first part and then the rest on top of it. -/
theorem Memory.loadAll_append (m : Memory) (before rest : List (Nat × List Byte)) :
    Memory.loadAll m (before ++ rest) = (Memory.loadAll m before).bind (Memory.loadAll · rest) := by
  induction before generalizing m with
  | nil => rfl
  | cons x before ih =>
    obtain ⟨o, image⟩ := x
    rw [List.cons_append, Memory.loadAll, Memory.loadAll]
    split
    · exact ih _
    · rfl

/-- When all the images are placed, the first one fits and the rest are placed on top of it. -/
theorem Memory.loadAll_cons_eq_some {m n : Memory} {o : Nat} {image : List Byte} {rest : List (Nat × List Byte)}
    (h : Memory.loadAll m ((o, image) :: rest) = some n) :
    o + image.length ≤ 65536 ∧ Memory.loadAll (Memory.load m o image) rest = some n := by
  rw [Memory.loadAll] at h
  split at h
  next hfits => exact ⟨hfits, h⟩
  next => nomatch h

/-- An address no image covers reads as before. -/
theorem Memory.read_loadAll_of_not_covered {m n : Memory} {images : List (Nat × List Byte)} {k : Nat}
    (h : Memory.loadAll m images = some n) (hk : ∀ x ∈ images, k < x.1 ∨ x.1 + x.2.length ≤ k) :
    Memory.read n k = Memory.read m k := by
  induction images generalizing m with
  | nil => rw [Option.some.inj h]
  | cons x rest ih =>
    obtain ⟨o, image⟩ := x
    obtain ⟨hx : k < o ∨ o + image.length ≤ k, hrest⟩ := List.forall_mem_cons.1 hk
    rw [ih (Memory.loadAll_cons_eq_some h).2 hrest, Memory.read_load, dif_neg (by omega)]

/-- An address of an image reads that image's byte unless a later image covers it. -/
theorem Memory.read_loadAll_of_covered {m n : Memory} {before later : List (Nat × List Byte)} {o k : Nat}
    {image : List Byte} (h : Memory.loadAll m (before ++ (o, image) :: later) = some n) (hk : k < image.length)
    (hlater : ∀ y ∈ later, o + k < y.1 ∨ y.1 + y.2.length ≤ o + k) : Memory.read n (o + k) = image[k] := by
  rw [Memory.loadAll_append] at h
  obtain ⟨m', -, h'⟩ := Option.bind_eq_some_iff.1 h
  rw [Memory.read_loadAll_of_not_covered (Memory.loadAll_cons_eq_some h').2 hlater, Memory.read_load,
    dif_pos (by omega)]
  simp only [Nat.add_sub_cancel_left]

theorem Memory.wf_loadAll {m n : Memory} {images : List (Nat × List Byte)}
    (h : Memory.loadAll m images = some n) (hm : Memory.wf m) : Memory.wf n := by
  induction images generalizing m with
  | nil => exact Option.some.inj h ▸ hm
  | cons x rest ih =>
    obtain ⟨hfits, hrest⟩ := Memory.loadAll_cons_eq_some h
    exact ih hrest (Memory.wf_load _ _ _ hfits hm)

/-- Settles O59: the launch state differs from reset in `pc` and in the memory the images are placed in. -/
theorem launchPlacesTheWholeImageOrRefuses : Obligations.LaunchPlacesTheWholeImageOrRefuses := by
  unfold Obligations.LaunchPlacesTheWholeImageOrRefuses
  intro images entry
  refine ⟨fun ⟨x, hx, hlong⟩ => ?_, fun hfit => ?_⟩
  · rw [launch, Option.map_eq_none_iff, Option.eq_none_iff_forall_ne_some]
    intro n hn
    exact absurd ((Memory.exists_loadAll_eq_some_iff _ images).1 ⟨n, hn⟩ x hx) (Nat.not_le.2 hlong)
  · obtain ⟨n, hn⟩ := (Memory.exists_loadAll_eq_some_iff State.reset.mem images).2 hfit
    refine ⟨_, congrArg (Option.map _) hn, rfl, fun before o image later himages k hk hlater => ?_, fun a ha => ?_,
      Memory.wf_loadAll hn resetMemoryIsCanonical, rfl⟩
    · subst himages
      have himage : o + image.length ≤ 65536 := hfit (o, image) (by simp)
      have haddr : (BitVec.ofNat 16 (o + k)).toNat = o + k := Nat.mod_eq_of_lt (by omega)
      show Memory.read n (BitVec.ofNat 16 (o + k)).toNat = image[k]
      rw [haddr, Memory.read_loadAll_of_covered hn hk hlater]
    · exact Memory.read_loadAll_of_not_covered hn ha

/-! ### The run convention (R256) -/

theorem runUntilHalted_of_halted (n : Nat) {s : State} (h : s.halted = true) : runUntilHalted n s = .next s := by
  cases n with
  | zero => rfl
  | succ n => rw [runUntilHalted, if_pos h]

theorem runUntilHalted_succ (n : Nat) {s t : State} (hs : s.halted = false) (hstep : step s = .next t) :
    runUntilHalted (n + 1) s = runUntilHalted n t := by
  rw [runUntilHalted, if_neg (Bool.eq_false_iff.1 hs), hstep]

/-- A run of more moves goes on from where the run of fewer moves is. -/
theorem runUntilHalted_add {n : Nat} {s t : State} (h : runUntilHalted n s = .next t) (k : Nat) :
    runUntilHalted (n + k) s = runUntilHalted k t := by
  induction n generalizing s with
  | zero => rw [Nat.zero_add, Host.Outcome.next.inj h]
  | succ n ih =>
    cases hs : s.halted with
    | true =>
      obtain rfl : s = t := Host.Outcome.next.inj ((runUntilHalted_of_halted _ hs).symm.trans h)
      rw [runUntilHalted_of_halted _ hs, runUntilHalted_of_halted _ hs]
    | false =>
      obtain ⟨u, hu⟩ := machineAlwaysMoves s
      rw [Nat.succ_add, runUntilHalted_succ _ hs hu]
      exact ih (runUntilHalted_succ n hs hu ▸ h)

/-- The step that sets HALTED is the engine's at a HLT, and it goes one past it (R224). -/
theorem step_sets_halted {s t : State} (hstep : step s = .next t) (hs : s.halted = false) (ht : t.halted = true) :
    EngineTurn s ∧ s.readByte s.pc = 0x76 ∧ t.pc = s.pc + 1 := by
  obtain ⟨hturn, hop⟩ : EngineTurn s ∧ s.readByte s.pc = 0x76 :=
    ((haltedIsSetOnlyByHltAndNeverCleared s t hstep).1 ht).resolve_left (Bool.eq_false_iff.1 hs)
  rw [step_of_engineTurn hturn, s.fetch_eq_hlt_iff.2 hop] at hstep
  have hpc := of_exec_eq (everyInstructionEndsAtTheRulesPc .hlt _) hstep
  exact ⟨hturn, hop, hpc⟩

/-- A run that sets HALTED has a last move, the step that sets it. -/
theorem exists_step_of_runUntilHalted {n : Nat} {s t : State} (hs : s.halted = false)
    (hrun : runUntilHalted n s = .next t) (ht : t.halted = true) :
    ∃ m u, m < n ∧ runUntilHalted m s = .next u ∧ u.halted = false ∧ step u = .next t := by
  induction n generalizing s with
  | zero =>
    obtain rfl : s = t := Host.Outcome.next.inj hrun
    exact absurd ht (Bool.eq_false_iff.1 hs)
  | succ n ih =>
    obtain ⟨u, hu⟩ := machineAlwaysMoves s
    rw [runUntilHalted_succ n hs hu] at hrun
    cases huh : u.halted with
    | true =>
      obtain rfl : u = t := Host.Outcome.next.inj ((runUntilHalted_of_halted n huh).symm.trans hrun)
      exact ⟨0, s, n.succ_pos, rfl, hs, hu⟩
    | false =>
      obtain ⟨m, w, hm, hw, hwh, hlast⟩ := ih huh hrun
      exact ⟨m + 1, w, Nat.succ_lt_succ hm, (runUntilHalted_succ m hs hu).trans hw, hwh, hlast⟩

/-- Settles O60: more moves go on from the end state, which is its own end state; the last move set HALTED. -/
theorem aHaltedRunHasEnded : Obligations.AHaltedRunHasEnded := by
  unfold Obligations.AHaltedRunHasEnded
  refine ⟨fun _ => rfl, fun n _ _ => runUntilHalted_succ n, fun n _ => runUntilHalted_of_halted n,
    fun n k s t hrun ht => ?_, fun n s t hs hrun ht => ?_⟩
  · rw [runUntilHalted_add hrun k, runUntilHalted_of_halted k ht]
  · obtain ⟨m, u, hm, hu, huh, hlast⟩ := exists_step_of_runUntilHalted hs hrun ht
    obtain ⟨hturn, hop, hpc⟩ := step_sets_halted hlast huh ht
    exact ⟨m, u, hm, hu, huh, hturn, hop, hlast, hpc⟩

end Sys2Proof.Machine

/-! PROOFS. The fixed words of the opcode map (R59), the step on the engine's turn (R50) and the ports (R220, R221).
Apart from its events an instruction of a port is an advance past its two bytes, for IN with the bridge present after a
write of `A`. -/

namespace Sys2Proof.Machine

open Sys2Proof.Claims

/-! ### The opcode map in fixed words (R59) -/

/-- Settles O4: each word is the one the encoder writes for its well-formed instruction. -/
theorem writtenOutWordsDecode : Obligations.WrittenOutWordsDecode := by
  unfold Obligations.WrittenOutWordsDecode
  and_intros
  all_goals exact encodes_of_encode_eq rfl rfl

/-! ### The step on the engine's turn (R50) -/

/-- Settles O5: the fetched instruction is the decoded one, and the engine's turn leaves the list before it runs. -/
theorem stepRunsTheDecodedInstruction : Obligations.StepRunsTheDecodedInstruction := by
  unfold Obligations.StepRunsTheDecodedInstruction
  intro s i rest hdecode
  have hfetch : s.fetch = i := State.fetch_of_decode hdecode
  refine ⟨fun hturns => ?_, fun ts hturns => ?_⟩
  · rw [step_of_turns_eq_nil hturns, hfetch]
  · rw [step_of_engineTurn (.inr ⟨ts, hturns⟩), hfetch, hturns, List.tail_cons]

/-! ### The ports (R220, R221) -/

/-- An advance after a write of one register falls through with that register as the only one written. -/
theorem State.advance_setReg_fallsThrough (s : State) (r : Reg) (v : Byte) (bs : List Byte) :
    FallsThrough s ((s.setReg r v).advance bs.length) bs [r] [] where
  regs q hq := by
    have hne : q ≠ r := by simpa using hq
    rw [State.reg_advance, State.reg_setReg, if_neg hne]
  mem a _ := s.readByte_setReg r v a
  inte := s.setReg_inte r v
  halted := s.setReg_halted r v
  unimpl := s.setReg_unimpl r v
  stub := s.setReg_stub r v
  params := s.setReg_params r v
  env := s.setReg_env r v
  pc := by simp
  sp := s.setReg_sp r v

/-- Settles O38: with the record put back, IN with the bridge present is a write of `A` and an advance. -/
theorem inTakesTheEnvironmentsByteOrNothing : Obligations.InTakesTheEnvironmentsByteOrNothing := by
  unfold Obligations.InTakesTheEnvironmentsByteOrNothing
  intro s p8
  refine ⟨encodes_of_encode_eq rfl rfl, (s.portIn p8).advance 2, rfl, by simp, fun h => ?_, fun h => ?_⟩
  · rw [State.portIn_absent s p8 h]
    exact ⟨rfl, s.advance_fallsThrough [0xDB, p8]⟩
  · rw [State.portIn_present s p8 h]
    exact ⟨rfl, rfl, s.advance_setReg_fallsThrough .A _ [0xDB, p8]⟩

/-- Settles O39: with the record put back, OUT is an advance, and the record gets the event when the bridge is
present. -/
theorem outChangesNothingButTheTrace : Obligations.OutChangesNothingButTheTrace := by
  unfold Obligations.OutChangesNothingButTheTrace
  intro s p8
  have hfalls := s.advance_fallsThrough [0xD3, p8]
  refine ⟨encodes_of_encode_eq rfl rfl, (s.portOut p8).advance 2, rfl, by simp, ?_⟩
  cases h : s.params.ioBridge with
  | absent =>
    rw [State.portOut_absent s p8 h]
    exact ⟨hfalls, by simp⟩
  | present =>
    rw [State.portOut_present s p8 h]
    exact ⟨hfalls, rfl⟩

end Sys2Proof.Machine
